-- ==== Sys2Proof/Word.lean ====
section
/-! DEFINITION. The two word types of the machine (R5: `BYTE` 8 bits, `ADDR_WIDTH` and `PC_WIDTH` 16 bits). -/

namespace Sys2Proof

/-- An 8-bit register or one addressable byte (R5 `REG_WIDTH`, `BYTE`). -/
abbrev Byte := BitVec 8

/-- A 16-bit address or the program counter (R5 `PC_WIDTH`, `ADDR_WIDTH`). Its arithmetic wraps modulo 65536. -/
abbrev Word := BitVec 16

end Sys2Proof
end

