-- ==== Sys2Proof/Machine/Bits.lean ====
section
/-! DEFINITION. Byte order, bit fields and sign extension (R7, R9, R54). -/

namespace Sys2Proof.Machine

/-- The word whose low byte is `lo` and high byte is `hi`: every 16-bit quantity is little-endian (R54). -/
def wordOfBytes (lo hi : Byte) : Word := hi ++ lo

/-- `w[7:0]` (R7). -/
def loByte (w : Word) : Byte := w.setWidth 8

/-- `w[15:8]` (R7), the page of an address (R11). -/
def hiByte (w : Word) : Byte := (w >>> 8).setWidth 8

/-- `sext_16` (R9): `b` if `b < 128`, else `b + 0xFF00`. -/
def sext16 (b : Byte) : Word := b.signExtend 16

/-- `zext_16` (R9). -/
def zext16 (b : Byte) : Word := b.setWidth 16

/-- The second byte's address of `Read16Page` (R55): the next address inside the same page. -/
def nextInPage (a : Word) : Word := wordOfBytes (loByte a + 1) (hiByte a)

/-- R112: two addresses are in different pages when their high bytes differ. -/
def pagesDiffer (a b : Word) : Bool := hiByte a != hiByte b

/-- The byte whose bits, from 7 down, are the given flags. -/
def byteOfBits (b7 b6 b5 b4 b3 b2 b1 b0 : Bool) : Byte :=
  BitVec.ofNat 8 (128 * b7.toNat + 64 * b6.toNat + 32 * b5.toNat + 16 * b4.toNat + 8 * b3.toNat + 4 * b2.toNat
    + 2 * b1.toNat + b0.toNat)

/-- The field of `width` bits of `t` whose lowest bit is bit `lo`, as an unsigned number (R7's `v[hi:lo]`). -/
def field (lo width : Nat) (t : BitVec 15) : Nat := (t.toNat / 2 ^ lo) % 2 ^ width

/-- `t[lo+width-1:lo] <- value`: the other bits stay. -/
def setField (lo width value : Nat) (t : BitVec 15) : BitVec 15 :=
  let mask : BitVec 15 := BitVec.ofNat 15 ((2 ^ width - 1) * 2 ^ lo)
  (t &&& ~~~mask) ||| (BitVec.ofNat 15 (value * 2 ^ lo) &&& mask)

end Sys2Proof.Machine
end

