-- ==== Sys2Proof/Machine/Modes.lean ====
section
/-! DEFINITION. The names the opcode table is written in: the 56 documented mnemonics and `UNDOC` (R106, R107), the
13 addressing modes (R92 to R104), an operand in one of them, and the size and cost of a table row (R90, R111). -/

namespace Sys2Proof

/-- The mnemonics of `spec/opcode_table.json` (R106; `undoc` is R107's name for the 105 undocumented opcodes). -/
inductive Mnemonic where
  | adc | and | asl | bcc | bcs | beq | bit | bmi | bne | bpl | brk | bvc | bvs | clc | cld | cli | clv | cmp | cpx
  | cpy | dec | dex | dey | eor | inc | inx | iny | jmp | jsr | lda | ldx | ldy | lsr | nop | ora | pha | php | pla
  | plp | rol | ror | rti | rts | sbc | sec | sed | sei | sta | stx | sty | tax | tay | tsx | txa | txs | tya | undoc
  deriving DecidableEq, Repr

/-- The 13 addressing modes (R92 to R104). -/
inductive Mode where
  | implied | accumulator | immediate | zeroPage | zeroPageX | zeroPageY | absolute | absoluteX | absoluteY
  | indirect | indexedIndirect | indirectIndexed | relative
  deriving DecidableEq, Repr

/-- An operand as it stands in the instruction's bytes, one form per addressing mode (R92 to R104). -/
inductive Operand where
  | implied
  | accumulator
  | immediate (value : Byte)
  | zeroPage (z : Byte)
  | zeroPageX (z : Byte)
  | zeroPageY (z : Byte)
  | absolute (addr : Word)
  | absoluteX (addr : Word)
  | absoluteY (addr : Word)
  | indirect (ptr : Word)
  | indexedIndirect (z : Byte)
  | indirectIndexed (z : Byte)
  | relative (offset : Byte)
  deriving DecidableEq, Repr

/-- A table row's length in bytes, base cycle cost and page-crossing penalty flag (R90, R111). -/
structure Timing where
  size    : Nat
  cycles  : Nat
  penalty : Bool
  deriving DecidableEq, Repr

/-- One row of the opcode table (R43, R108). -/
structure OpcodeRow where
  opcode   : Nat
  mnemonic : Mnemonic
  mode     : Mode
  timing   : Timing
  deriving DecidableEq, Repr

end Sys2Proof
end

