-- ==== Sys2Proof/Syntax.lean ====
section
/-! DEFINITION. The instruction set: one constructor per row of `spec/opcode_table.json` (R106, R107), 256 in all. A
constructor is named after the row's mnemonic and addressing mode (`Imm` immediate, `Zp` zero page, `Abs` absolute, `X`
and `Y` indexed, `IndX` `(zp,X)`, `IndY` `(zp),Y`, `Ind` indirect, `Acc` accumulator); `undoc` is followed by the opcode.
It carries the operand byte or the little-endian operand word (R90). `BRK`'s padding byte is not read (R115). The
constructors without an operand stand last, since compiled Lean allows fewer than 245 constructors with fields. -/

namespace Sys2Proof

inductive Instr where
  | adcIndX (z : Byte) | adcZp (z : Byte) | adcImm (v : Byte) | adcAbs (a : Word) | adcIndY (z : Byte)
  | adcZpX (z : Byte) | adcAbsY (a : Word) | adcAbsX (a : Word)
  | andIndX (z : Byte) | andZp (z : Byte) | andImm (v : Byte) | andAbs (a : Word) | andIndY (z : Byte)
  | andZpX (z : Byte) | andAbsY (a : Word) | andAbsX (a : Word)
  | aslZp (z : Byte) | aslAbs (a : Word) | aslZpX (z : Byte) | aslAbsX (a : Word)
  | bcc (off : Byte)
  | bcs (off : Byte)
  | beq (off : Byte)
  | bitZp (z : Byte) | bitAbs (a : Word)
  | bmi (off : Byte)
  | bne (off : Byte)
  | bpl (off : Byte)
  | bvc (off : Byte)
  | bvs (off : Byte)
  | cmpIndX (z : Byte) | cmpZp (z : Byte) | cmpImm (v : Byte) | cmpAbs (a : Word) | cmpIndY (z : Byte)
  | cmpZpX (z : Byte) | cmpAbsY (a : Word) | cmpAbsX (a : Word)
  | cpxImm (v : Byte) | cpxZp (z : Byte) | cpxAbs (a : Word)
  | cpyImm (v : Byte) | cpyZp (z : Byte) | cpyAbs (a : Word)
  | decZp (z : Byte) | decAbs (a : Word) | decZpX (z : Byte) | decAbsX (a : Word)
  | eorIndX (z : Byte) | eorZp (z : Byte) | eorImm (v : Byte) | eorAbs (a : Word) | eorIndY (z : Byte)
  | eorZpX (z : Byte) | eorAbsY (a : Word) | eorAbsX (a : Word)
  | incZp (z : Byte) | incAbs (a : Word) | incZpX (z : Byte) | incAbsX (a : Word)
  | jmpAbs (a : Word) | jmpInd (p : Word)
  | jsrAbs (a : Word)
  | ldaIndX (z : Byte) | ldaZp (z : Byte) | ldaImm (v : Byte) | ldaAbs (a : Word) | ldaIndY (z : Byte)
  | ldaZpX (z : Byte) | ldaAbsY (a : Word) | ldaAbsX (a : Word)
  | ldxImm (v : Byte) | ldxZp (z : Byte) | ldxAbs (a : Word) | ldxZpY (z : Byte) | ldxAbsY (a : Word)
  | ldyImm (v : Byte) | ldyZp (z : Byte) | ldyAbs (a : Word) | ldyZpX (z : Byte) | ldyAbsX (a : Word)
  | lsrZp (z : Byte) | lsrAbs (a : Word) | lsrZpX (z : Byte) | lsrAbsX (a : Word)
  | oraIndX (z : Byte) | oraZp (z : Byte) | oraImm (v : Byte) | oraAbs (a : Word) | oraIndY (z : Byte)
  | oraZpX (z : Byte) | oraAbsY (a : Word) | oraAbsX (a : Word)
  | rolZp (z : Byte) | rolAbs (a : Word) | rolZpX (z : Byte) | rolAbsX (a : Word)
  | rorZp (z : Byte) | rorAbs (a : Word) | rorZpX (z : Byte) | rorAbsX (a : Word)
  | sbcIndX (z : Byte) | sbcZp (z : Byte) | sbcImm (v : Byte) | sbcAbs (a : Word) | sbcIndY (z : Byte)
  | sbcZpX (z : Byte) | sbcAbsY (a : Word) | sbcAbsX (a : Word)
  | staIndX (z : Byte) | staZp (z : Byte) | staAbs (a : Word) | staIndY (z : Byte) | staZpX (z : Byte)
  | staAbsY (a : Word) | staAbsX (a : Word)
  | stxZp (z : Byte) | stxAbs (a : Word) | stxZpY (z : Byte)
  | styZp (z : Byte) | styAbs (a : Word) | styZpX (z : Byte)
  | undoc03 (z : Byte) | undoc04 (z : Byte) | undoc07 (z : Byte) | undoc0B (v : Byte) | undoc0C (a : Word)
  | undoc0F (a : Word) | undoc13 (z : Byte) | undoc14 (z : Byte) | undoc17 (z : Byte) | undoc1B (a : Word)
  | undoc1C (a : Word) | undoc1F (a : Word) | undoc23 (z : Byte) | undoc27 (z : Byte) | undoc2B (v : Byte)
  | undoc2F (a : Word) | undoc33 (z : Byte) | undoc34 (z : Byte) | undoc37 (z : Byte) | undoc3B (a : Word)
  | undoc3C (a : Word) | undoc3F (a : Word) | undoc43 (z : Byte) | undoc44 (z : Byte) | undoc47 (z : Byte)
  | undoc4B (v : Byte) | undoc4F (a : Word) | undoc53 (z : Byte) | undoc54 (z : Byte) | undoc57 (z : Byte)
  | undoc5B (a : Word) | undoc5C (a : Word) | undoc5F (a : Word) | undoc63 (z : Byte) | undoc64 (z : Byte)
  | undoc67 (z : Byte) | undoc6B (v : Byte) | undoc6F (a : Word) | undoc73 (z : Byte) | undoc74 (z : Byte)
  | undoc77 (z : Byte) | undoc7B (a : Word) | undoc7C (a : Word) | undoc7F (a : Word) | undoc80 (v : Byte)
  | undoc82 (v : Byte) | undoc83 (z : Byte) | undoc87 (z : Byte) | undoc89 (v : Byte) | undoc8B (v : Byte)
  | undoc8F (a : Word) | undoc93 (z : Byte) | undoc97 (z : Byte) | undoc9B (a : Word) | undoc9C (a : Word)
  | undoc9E (a : Word) | undoc9F (a : Word) | undocA3 (z : Byte) | undocA7 (z : Byte) | undocAB (v : Byte)
  | undocAF (a : Word) | undocB3 (z : Byte) | undocB7 (z : Byte) | undocBB (a : Word) | undocBF (a : Word)
  | undocC2 (v : Byte) | undocC3 (z : Byte) | undocC7 (z : Byte) | undocCB (v : Byte) | undocCF (a : Word)
  | undocD3 (z : Byte) | undocD4 (z : Byte) | undocD7 (z : Byte) | undocDB (a : Word) | undocDC (a : Word)
  | undocDF (a : Word) | undocE2 (v : Byte) | undocE3 (z : Byte) | undocE7 (z : Byte) | undocEB (v : Byte)
  | undocEF (a : Word) | undocF3 (z : Byte) | undocF4 (z : Byte) | undocF7 (z : Byte) | undocFB (a : Word)
  | undocFC (a : Word) | undocFF (a : Word)
  | aslAcc | brk | clc | cld | cli | clv | dex | dey | inx | iny | lsrAcc | nop
  | pha | php | pla | plp | rolAcc | rorAcc | rti | rts | sec | sed | sei | tax
  | tay | tsx | txa | txs | tya | undoc02 | undoc12 | undoc1A | undoc22 | undoc32 | undoc3A | undoc42
  | undoc52 | undoc5A | undoc62 | undoc72 | undoc7A | undoc92 | undocB2 | undocD2 | undocDA | undocF2 | undocFA
  deriving DecidableEq, Repr

end Sys2Proof
end

