-- ==== Sys2Proof/Decode.lean ====
section
/-! DEFINITION. The opcode table (R105 to R108), the decoder (R91), and the encoder written from the same table. -/

namespace Sys2Proof

open Sys2Proof.Machine

/-- Opcodes `$00` to `$0F` of R105, R106, R107: mnemonic, mode, size, cycles, page penalty. -/
def opcodeRows0 : List OpcodeRow :=
  [⟨0x00, .brk, .implied, ⟨2, 7, false⟩⟩,
   ⟨0x01, .ora, .indexedIndirect, ⟨2, 6, false⟩⟩,
   ⟨0x02, .undoc, .implied, ⟨1, 2, false⟩⟩,
   ⟨0x03, .undoc, .indexedIndirect, ⟨2, 8, false⟩⟩,
   ⟨0x04, .undoc, .zeroPage, ⟨2, 3, false⟩⟩,
   ⟨0x05, .ora, .zeroPage, ⟨2, 3, false⟩⟩,
   ⟨0x06, .asl, .zeroPage, ⟨2, 5, false⟩⟩,
   ⟨0x07, .undoc, .zeroPage, ⟨2, 5, false⟩⟩,
   ⟨0x08, .php, .implied, ⟨1, 3, false⟩⟩,
   ⟨0x09, .ora, .immediate, ⟨2, 2, false⟩⟩,
   ⟨0x0A, .asl, .accumulator, ⟨1, 2, false⟩⟩,
   ⟨0x0B, .undoc, .immediate, ⟨2, 2, false⟩⟩,
   ⟨0x0C, .undoc, .absolute, ⟨3, 4, false⟩⟩,
   ⟨0x0D, .ora, .absolute, ⟨3, 4, false⟩⟩,
   ⟨0x0E, .asl, .absolute, ⟨3, 6, false⟩⟩,
   ⟨0x0F, .undoc, .absolute, ⟨3, 6, false⟩⟩]

/-- Opcodes `$10` to `$1F` of R105, R106, R107: mnemonic, mode, size, cycles, page penalty. -/
def opcodeRows1 : List OpcodeRow :=
  [⟨0x10, .bpl, .relative, ⟨2, 2, false⟩⟩,
   ⟨0x11, .ora, .indirectIndexed, ⟨2, 5, true⟩⟩,
   ⟨0x12, .undoc, .implied, ⟨1, 2, false⟩⟩,
   ⟨0x13, .undoc, .indirectIndexed, ⟨2, 8, false⟩⟩,
   ⟨0x14, .undoc, .zeroPageX, ⟨2, 4, false⟩⟩,
   ⟨0x15, .ora, .zeroPageX, ⟨2, 4, false⟩⟩,
   ⟨0x16, .asl, .zeroPageX, ⟨2, 6, false⟩⟩,
   ⟨0x17, .undoc, .zeroPageX, ⟨2, 6, false⟩⟩,
   ⟨0x18, .clc, .implied, ⟨1, 2, false⟩⟩,
   ⟨0x19, .ora, .absoluteY, ⟨3, 4, true⟩⟩,
   ⟨0x1A, .undoc, .implied, ⟨1, 2, false⟩⟩,
   ⟨0x1B, .undoc, .absoluteY, ⟨3, 7, false⟩⟩,
   ⟨0x1C, .undoc, .absoluteX, ⟨3, 4, true⟩⟩,
   ⟨0x1D, .ora, .absoluteX, ⟨3, 4, true⟩⟩,
   ⟨0x1E, .asl, .absoluteX, ⟨3, 7, false⟩⟩,
   ⟨0x1F, .undoc, .absoluteX, ⟨3, 7, false⟩⟩]

/-- Opcodes `$20` to `$2F` of R105, R106, R107: mnemonic, mode, size, cycles, page penalty. -/
def opcodeRows2 : List OpcodeRow :=
  [⟨0x20, .jsr, .absolute, ⟨3, 6, false⟩⟩,
   ⟨0x21, .and, .indexedIndirect, ⟨2, 6, false⟩⟩,
   ⟨0x22, .undoc, .implied, ⟨1, 2, false⟩⟩,
   ⟨0x23, .undoc, .indexedIndirect, ⟨2, 8, false⟩⟩,
   ⟨0x24, .bit, .zeroPage, ⟨2, 3, false⟩⟩,
   ⟨0x25, .and, .zeroPage, ⟨2, 3, false⟩⟩,
   ⟨0x26, .rol, .zeroPage, ⟨2, 5, false⟩⟩,
   ⟨0x27, .undoc, .zeroPage, ⟨2, 5, false⟩⟩,
   ⟨0x28, .plp, .implied, ⟨1, 4, false⟩⟩,
   ⟨0x29, .and, .immediate, ⟨2, 2, false⟩⟩,
   ⟨0x2A, .rol, .accumulator, ⟨1, 2, false⟩⟩,
   ⟨0x2B, .undoc, .immediate, ⟨2, 2, false⟩⟩,
   ⟨0x2C, .bit, .absolute, ⟨3, 4, false⟩⟩,
   ⟨0x2D, .and, .absolute, ⟨3, 4, false⟩⟩,
   ⟨0x2E, .rol, .absolute, ⟨3, 6, false⟩⟩,
   ⟨0x2F, .undoc, .absolute, ⟨3, 6, false⟩⟩]

/-- Opcodes `$30` to `$3F` of R105, R106, R107: mnemonic, mode, size, cycles, page penalty. -/
def opcodeRows3 : List OpcodeRow :=
  [⟨0x30, .bmi, .relative, ⟨2, 2, false⟩⟩,
   ⟨0x31, .and, .indirectIndexed, ⟨2, 5, true⟩⟩,
   ⟨0x32, .undoc, .implied, ⟨1, 2, false⟩⟩,
   ⟨0x33, .undoc, .indirectIndexed, ⟨2, 8, false⟩⟩,
   ⟨0x34, .undoc, .zeroPageX, ⟨2, 4, false⟩⟩,
   ⟨0x35, .and, .zeroPageX, ⟨2, 4, false⟩⟩,
   ⟨0x36, .rol, .zeroPageX, ⟨2, 6, false⟩⟩,
   ⟨0x37, .undoc, .zeroPageX, ⟨2, 6, false⟩⟩,
   ⟨0x38, .sec, .implied, ⟨1, 2, false⟩⟩,
   ⟨0x39, .and, .absoluteY, ⟨3, 4, true⟩⟩,
   ⟨0x3A, .undoc, .implied, ⟨1, 2, false⟩⟩,
   ⟨0x3B, .undoc, .absoluteY, ⟨3, 7, false⟩⟩,
   ⟨0x3C, .undoc, .absoluteX, ⟨3, 4, true⟩⟩,
   ⟨0x3D, .and, .absoluteX, ⟨3, 4, true⟩⟩,
   ⟨0x3E, .rol, .absoluteX, ⟨3, 7, false⟩⟩,
   ⟨0x3F, .undoc, .absoluteX, ⟨3, 7, false⟩⟩]

/-- Opcodes `$40` to `$4F` of R105, R106, R107: mnemonic, mode, size, cycles, page penalty. -/
def opcodeRows4 : List OpcodeRow :=
  [⟨0x40, .rti, .implied, ⟨1, 6, false⟩⟩,
   ⟨0x41, .eor, .indexedIndirect, ⟨2, 6, false⟩⟩,
   ⟨0x42, .undoc, .implied, ⟨1, 2, false⟩⟩,
   ⟨0x43, .undoc, .indexedIndirect, ⟨2, 8, false⟩⟩,
   ⟨0x44, .undoc, .zeroPage, ⟨2, 3, false⟩⟩,
   ⟨0x45, .eor, .zeroPage, ⟨2, 3, false⟩⟩,
   ⟨0x46, .lsr, .zeroPage, ⟨2, 5, false⟩⟩,
   ⟨0x47, .undoc, .zeroPage, ⟨2, 5, false⟩⟩,
   ⟨0x48, .pha, .implied, ⟨1, 3, false⟩⟩,
   ⟨0x49, .eor, .immediate, ⟨2, 2, false⟩⟩,
   ⟨0x4A, .lsr, .accumulator, ⟨1, 2, false⟩⟩,
   ⟨0x4B, .undoc, .immediate, ⟨2, 2, false⟩⟩,
   ⟨0x4C, .jmp, .absolute, ⟨3, 3, false⟩⟩,
   ⟨0x4D, .eor, .absolute, ⟨3, 4, false⟩⟩,
   ⟨0x4E, .lsr, .absolute, ⟨3, 6, false⟩⟩,
   ⟨0x4F, .undoc, .absolute, ⟨3, 6, false⟩⟩]

/-- Opcodes `$50` to `$5F` of R105, R106, R107: mnemonic, mode, size, cycles, page penalty. -/
def opcodeRows5 : List OpcodeRow :=
  [⟨0x50, .bvc, .relative, ⟨2, 2, false⟩⟩,
   ⟨0x51, .eor, .indirectIndexed, ⟨2, 5, true⟩⟩,
   ⟨0x52, .undoc, .implied, ⟨1, 2, false⟩⟩,
   ⟨0x53, .undoc, .indirectIndexed, ⟨2, 8, false⟩⟩,
   ⟨0x54, .undoc, .zeroPageX, ⟨2, 4, false⟩⟩,
   ⟨0x55, .eor, .zeroPageX, ⟨2, 4, false⟩⟩,
   ⟨0x56, .lsr, .zeroPageX, ⟨2, 6, false⟩⟩,
   ⟨0x57, .undoc, .zeroPageX, ⟨2, 6, false⟩⟩,
   ⟨0x58, .cli, .implied, ⟨1, 2, false⟩⟩,
   ⟨0x59, .eor, .absoluteY, ⟨3, 4, true⟩⟩,
   ⟨0x5A, .undoc, .implied, ⟨1, 2, false⟩⟩,
   ⟨0x5B, .undoc, .absoluteY, ⟨3, 7, false⟩⟩,
   ⟨0x5C, .undoc, .absoluteX, ⟨3, 4, true⟩⟩,
   ⟨0x5D, .eor, .absoluteX, ⟨3, 4, true⟩⟩,
   ⟨0x5E, .lsr, .absoluteX, ⟨3, 7, false⟩⟩,
   ⟨0x5F, .undoc, .absoluteX, ⟨3, 7, false⟩⟩]

/-- Opcodes `$60` to `$6F` of R105, R106, R107: mnemonic, mode, size, cycles, page penalty. -/
def opcodeRows6 : List OpcodeRow :=
  [⟨0x60, .rts, .implied, ⟨1, 6, false⟩⟩,
   ⟨0x61, .adc, .indexedIndirect, ⟨2, 6, false⟩⟩,
   ⟨0x62, .undoc, .implied, ⟨1, 2, false⟩⟩,
   ⟨0x63, .undoc, .indexedIndirect, ⟨2, 8, false⟩⟩,
   ⟨0x64, .undoc, .zeroPage, ⟨2, 3, false⟩⟩,
   ⟨0x65, .adc, .zeroPage, ⟨2, 3, false⟩⟩,
   ⟨0x66, .ror, .zeroPage, ⟨2, 5, false⟩⟩,
   ⟨0x67, .undoc, .zeroPage, ⟨2, 5, false⟩⟩,
   ⟨0x68, .pla, .implied, ⟨1, 4, false⟩⟩,
   ⟨0x69, .adc, .immediate, ⟨2, 2, false⟩⟩,
   ⟨0x6A, .ror, .accumulator, ⟨1, 2, false⟩⟩,
   ⟨0x6B, .undoc, .immediate, ⟨2, 2, false⟩⟩,
   ⟨0x6C, .jmp, .indirect, ⟨3, 5, false⟩⟩,
   ⟨0x6D, .adc, .absolute, ⟨3, 4, false⟩⟩,
   ⟨0x6E, .ror, .absolute, ⟨3, 6, false⟩⟩,
   ⟨0x6F, .undoc, .absolute, ⟨3, 6, false⟩⟩]

/-- Opcodes `$70` to `$7F` of R105, R106, R107: mnemonic, mode, size, cycles, page penalty. -/
def opcodeRows7 : List OpcodeRow :=
  [⟨0x70, .bvs, .relative, ⟨2, 2, false⟩⟩,
   ⟨0x71, .adc, .indirectIndexed, ⟨2, 5, true⟩⟩,
   ⟨0x72, .undoc, .implied, ⟨1, 2, false⟩⟩,
   ⟨0x73, .undoc, .indirectIndexed, ⟨2, 8, false⟩⟩,
   ⟨0x74, .undoc, .zeroPageX, ⟨2, 4, false⟩⟩,
   ⟨0x75, .adc, .zeroPageX, ⟨2, 4, false⟩⟩,
   ⟨0x76, .ror, .zeroPageX, ⟨2, 6, false⟩⟩,
   ⟨0x77, .undoc, .zeroPageX, ⟨2, 6, false⟩⟩,
   ⟨0x78, .sei, .implied, ⟨1, 2, false⟩⟩,
   ⟨0x79, .adc, .absoluteY, ⟨3, 4, true⟩⟩,
   ⟨0x7A, .undoc, .implied, ⟨1, 2, false⟩⟩,
   ⟨0x7B, .undoc, .absoluteY, ⟨3, 7, false⟩⟩,
   ⟨0x7C, .undoc, .absoluteX, ⟨3, 4, true⟩⟩,
   ⟨0x7D, .adc, .absoluteX, ⟨3, 4, true⟩⟩,
   ⟨0x7E, .ror, .absoluteX, ⟨3, 7, false⟩⟩,
   ⟨0x7F, .undoc, .absoluteX, ⟨3, 7, false⟩⟩]

/-- Opcodes `$80` to `$8F` of R105, R106, R107: mnemonic, mode, size, cycles, page penalty. -/
def opcodeRows8 : List OpcodeRow :=
  [⟨0x80, .undoc, .immediate, ⟨2, 2, false⟩⟩,
   ⟨0x81, .sta, .indexedIndirect, ⟨2, 6, false⟩⟩,
   ⟨0x82, .undoc, .immediate, ⟨2, 2, false⟩⟩,
   ⟨0x83, .undoc, .indexedIndirect, ⟨2, 6, false⟩⟩,
   ⟨0x84, .sty, .zeroPage, ⟨2, 3, false⟩⟩,
   ⟨0x85, .sta, .zeroPage, ⟨2, 3, false⟩⟩,
   ⟨0x86, .stx, .zeroPage, ⟨2, 3, false⟩⟩,
   ⟨0x87, .undoc, .zeroPage, ⟨2, 3, false⟩⟩,
   ⟨0x88, .dey, .implied, ⟨1, 2, false⟩⟩,
   ⟨0x89, .undoc, .immediate, ⟨2, 2, false⟩⟩,
   ⟨0x8A, .txa, .implied, ⟨1, 2, false⟩⟩,
   ⟨0x8B, .undoc, .immediate, ⟨2, 2, false⟩⟩,
   ⟨0x8C, .sty, .absolute, ⟨3, 4, false⟩⟩,
   ⟨0x8D, .sta, .absolute, ⟨3, 4, false⟩⟩,
   ⟨0x8E, .stx, .absolute, ⟨3, 4, false⟩⟩,
   ⟨0x8F, .undoc, .absolute, ⟨3, 4, false⟩⟩]

/-- Opcodes `$90` to `$9F` of R105, R106, R107: mnemonic, mode, size, cycles, page penalty. -/
def opcodeRows9 : List OpcodeRow :=
  [⟨0x90, .bcc, .relative, ⟨2, 2, false⟩⟩,
   ⟨0x91, .sta, .indirectIndexed, ⟨2, 6, false⟩⟩,
   ⟨0x92, .undoc, .implied, ⟨1, 2, false⟩⟩,
   ⟨0x93, .undoc, .indirectIndexed, ⟨2, 6, false⟩⟩,
   ⟨0x94, .sty, .zeroPageX, ⟨2, 4, false⟩⟩,
   ⟨0x95, .sta, .zeroPageX, ⟨2, 4, false⟩⟩,
   ⟨0x96, .stx, .zeroPageY, ⟨2, 4, false⟩⟩,
   ⟨0x97, .undoc, .zeroPageY, ⟨2, 4, false⟩⟩,
   ⟨0x98, .tya, .implied, ⟨1, 2, false⟩⟩,
   ⟨0x99, .sta, .absoluteY, ⟨3, 5, false⟩⟩,
   ⟨0x9A, .txs, .implied, ⟨1, 2, false⟩⟩,
   ⟨0x9B, .undoc, .absoluteY, ⟨3, 5, false⟩⟩,
   ⟨0x9C, .undoc, .absoluteX, ⟨3, 5, false⟩⟩,
   ⟨0x9D, .sta, .absoluteX, ⟨3, 5, false⟩⟩,
   ⟨0x9E, .undoc, .absoluteY, ⟨3, 5, false⟩⟩,
   ⟨0x9F, .undoc, .absoluteY, ⟨3, 5, false⟩⟩]

/-- Opcodes `$A0` to `$AF` of R105, R106, R107: mnemonic, mode, size, cycles, page penalty. -/
def opcodeRowsA : List OpcodeRow :=
  [⟨0xA0, .ldy, .immediate, ⟨2, 2, false⟩⟩,
   ⟨0xA1, .lda, .indexedIndirect, ⟨2, 6, false⟩⟩,
   ⟨0xA2, .ldx, .immediate, ⟨2, 2, false⟩⟩,
   ⟨0xA3, .undoc, .indexedIndirect, ⟨2, 6, false⟩⟩,
   ⟨0xA4, .ldy, .zeroPage, ⟨2, 3, false⟩⟩,
   ⟨0xA5, .lda, .zeroPage, ⟨2, 3, false⟩⟩,
   ⟨0xA6, .ldx, .zeroPage, ⟨2, 3, false⟩⟩,
   ⟨0xA7, .undoc, .zeroPage, ⟨2, 3, false⟩⟩,
   ⟨0xA8, .tay, .implied, ⟨1, 2, false⟩⟩,
   ⟨0xA9, .lda, .immediate, ⟨2, 2, false⟩⟩,
   ⟨0xAA, .tax, .implied, ⟨1, 2, false⟩⟩,
   ⟨0xAB, .undoc, .immediate, ⟨2, 2, false⟩⟩,
   ⟨0xAC, .ldy, .absolute, ⟨3, 4, false⟩⟩,
   ⟨0xAD, .lda, .absolute, ⟨3, 4, false⟩⟩,
   ⟨0xAE, .ldx, .absolute, ⟨3, 4, false⟩⟩,
   ⟨0xAF, .undoc, .absolute, ⟨3, 4, false⟩⟩]

/-- Opcodes `$B0` to `$BF` of R105, R106, R107: mnemonic, mode, size, cycles, page penalty. -/
def opcodeRowsB : List OpcodeRow :=
  [⟨0xB0, .bcs, .relative, ⟨2, 2, false⟩⟩,
   ⟨0xB1, .lda, .indirectIndexed, ⟨2, 5, true⟩⟩,
   ⟨0xB2, .undoc, .implied, ⟨1, 2, false⟩⟩,
   ⟨0xB3, .undoc, .indirectIndexed, ⟨2, 5, true⟩⟩,
   ⟨0xB4, .ldy, .zeroPageX, ⟨2, 4, false⟩⟩,
   ⟨0xB5, .lda, .zeroPageX, ⟨2, 4, false⟩⟩,
   ⟨0xB6, .ldx, .zeroPageY, ⟨2, 4, false⟩⟩,
   ⟨0xB7, .undoc, .zeroPageY, ⟨2, 4, false⟩⟩,
   ⟨0xB8, .clv, .implied, ⟨1, 2, false⟩⟩,
   ⟨0xB9, .lda, .absoluteY, ⟨3, 4, true⟩⟩,
   ⟨0xBA, .tsx, .implied, ⟨1, 2, false⟩⟩,
   ⟨0xBB, .undoc, .absoluteY, ⟨3, 4, true⟩⟩,
   ⟨0xBC, .ldy, .absoluteX, ⟨3, 4, true⟩⟩,
   ⟨0xBD, .lda, .absoluteX, ⟨3, 4, true⟩⟩,
   ⟨0xBE, .ldx, .absoluteY, ⟨3, 4, true⟩⟩,
   ⟨0xBF, .undoc, .absoluteY, ⟨3, 4, true⟩⟩]

/-- Opcodes `$C0` to `$CF` of R105, R106, R107: mnemonic, mode, size, cycles, page penalty. -/
def opcodeRowsC : List OpcodeRow :=
  [⟨0xC0, .cpy, .immediate, ⟨2, 2, false⟩⟩,
   ⟨0xC1, .cmp, .indexedIndirect, ⟨2, 6, false⟩⟩,
   ⟨0xC2, .undoc, .immediate, ⟨2, 2, false⟩⟩,
   ⟨0xC3, .undoc, .indexedIndirect, ⟨2, 8, false⟩⟩,
   ⟨0xC4, .cpy, .zeroPage, ⟨2, 3, false⟩⟩,
   ⟨0xC5, .cmp, .zeroPage, ⟨2, 3, false⟩⟩,
   ⟨0xC6, .dec, .zeroPage, ⟨2, 5, false⟩⟩,
   ⟨0xC7, .undoc, .zeroPage, ⟨2, 5, false⟩⟩,
   ⟨0xC8, .iny, .implied, ⟨1, 2, false⟩⟩,
   ⟨0xC9, .cmp, .immediate, ⟨2, 2, false⟩⟩,
   ⟨0xCA, .dex, .implied, ⟨1, 2, false⟩⟩,
   ⟨0xCB, .undoc, .immediate, ⟨2, 2, false⟩⟩,
   ⟨0xCC, .cpy, .absolute, ⟨3, 4, false⟩⟩,
   ⟨0xCD, .cmp, .absolute, ⟨3, 4, false⟩⟩,
   ⟨0xCE, .dec, .absolute, ⟨3, 6, false⟩⟩,
   ⟨0xCF, .undoc, .absolute, ⟨3, 6, false⟩⟩]

/-- Opcodes `$D0` to `$DF` of R105, R106, R107: mnemonic, mode, size, cycles, page penalty. -/
def opcodeRowsD : List OpcodeRow :=
  [⟨0xD0, .bne, .relative, ⟨2, 2, false⟩⟩,
   ⟨0xD1, .cmp, .indirectIndexed, ⟨2, 5, true⟩⟩,
   ⟨0xD2, .undoc, .implied, ⟨1, 2, false⟩⟩,
   ⟨0xD3, .undoc, .indirectIndexed, ⟨2, 8, false⟩⟩,
   ⟨0xD4, .undoc, .zeroPageX, ⟨2, 4, false⟩⟩,
   ⟨0xD5, .cmp, .zeroPageX, ⟨2, 4, false⟩⟩,
   ⟨0xD6, .dec, .zeroPageX, ⟨2, 6, false⟩⟩,
   ⟨0xD7, .undoc, .zeroPageX, ⟨2, 6, false⟩⟩,
   ⟨0xD8, .cld, .implied, ⟨1, 2, false⟩⟩,
   ⟨0xD9, .cmp, .absoluteY, ⟨3, 4, true⟩⟩,
   ⟨0xDA, .undoc, .implied, ⟨1, 2, false⟩⟩,
   ⟨0xDB, .undoc, .absoluteY, ⟨3, 7, false⟩⟩,
   ⟨0xDC, .undoc, .absoluteX, ⟨3, 4, true⟩⟩,
   ⟨0xDD, .cmp, .absoluteX, ⟨3, 4, true⟩⟩,
   ⟨0xDE, .dec, .absoluteX, ⟨3, 7, false⟩⟩,
   ⟨0xDF, .undoc, .absoluteX, ⟨3, 7, false⟩⟩]

/-- Opcodes `$E0` to `$EF` of R105, R106, R107: mnemonic, mode, size, cycles, page penalty. -/
def opcodeRowsE : List OpcodeRow :=
  [⟨0xE0, .cpx, .immediate, ⟨2, 2, false⟩⟩,
   ⟨0xE1, .sbc, .indexedIndirect, ⟨2, 6, false⟩⟩,
   ⟨0xE2, .undoc, .immediate, ⟨2, 2, false⟩⟩,
   ⟨0xE3, .undoc, .indexedIndirect, ⟨2, 8, false⟩⟩,
   ⟨0xE4, .cpx, .zeroPage, ⟨2, 3, false⟩⟩,
   ⟨0xE5, .sbc, .zeroPage, ⟨2, 3, false⟩⟩,
   ⟨0xE6, .inc, .zeroPage, ⟨2, 5, false⟩⟩,
   ⟨0xE7, .undoc, .zeroPage, ⟨2, 5, false⟩⟩,
   ⟨0xE8, .inx, .implied, ⟨1, 2, false⟩⟩,
   ⟨0xE9, .sbc, .immediate, ⟨2, 2, false⟩⟩,
   ⟨0xEA, .nop, .implied, ⟨1, 2, false⟩⟩,
   ⟨0xEB, .undoc, .immediate, ⟨2, 2, false⟩⟩,
   ⟨0xEC, .cpx, .absolute, ⟨3, 4, false⟩⟩,
   ⟨0xED, .sbc, .absolute, ⟨3, 4, false⟩⟩,
   ⟨0xEE, .inc, .absolute, ⟨3, 6, false⟩⟩,
   ⟨0xEF, .undoc, .absolute, ⟨3, 6, false⟩⟩]

/-- Opcodes `$F0` to `$FF` of R105, R106, R107: mnemonic, mode, size, cycles, page penalty. -/
def opcodeRowsF : List OpcodeRow :=
  [⟨0xF0, .beq, .relative, ⟨2, 2, false⟩⟩,
   ⟨0xF1, .sbc, .indirectIndexed, ⟨2, 5, true⟩⟩,
   ⟨0xF2, .undoc, .implied, ⟨1, 2, false⟩⟩,
   ⟨0xF3, .undoc, .indirectIndexed, ⟨2, 8, false⟩⟩,
   ⟨0xF4, .undoc, .zeroPageX, ⟨2, 4, false⟩⟩,
   ⟨0xF5, .sbc, .zeroPageX, ⟨2, 4, false⟩⟩,
   ⟨0xF6, .inc, .zeroPageX, ⟨2, 6, false⟩⟩,
   ⟨0xF7, .undoc, .zeroPageX, ⟨2, 6, false⟩⟩,
   ⟨0xF8, .sed, .implied, ⟨1, 2, false⟩⟩,
   ⟨0xF9, .sbc, .absoluteY, ⟨3, 4, true⟩⟩,
   ⟨0xFA, .undoc, .implied, ⟨1, 2, false⟩⟩,
   ⟨0xFB, .undoc, .absoluteY, ⟨3, 7, false⟩⟩,
   ⟨0xFC, .undoc, .absoluteX, ⟨3, 4, true⟩⟩,
   ⟨0xFD, .sbc, .absoluteX, ⟨3, 4, true⟩⟩,
   ⟨0xFE, .inc, .absoluteX, ⟨3, 7, false⟩⟩,
   ⟨0xFF, .undoc, .absoluteX, ⟨3, 7, false⟩⟩]

/-- Row `h` of the opcode matrix (R105), by the opcode's high nibble. -/
def opcodeRows : Nat → List OpcodeRow
  | 0 => opcodeRows0
  | 1 => opcodeRows1
  | 2 => opcodeRows2
  | 3 => opcodeRows3
  | 4 => opcodeRows4
  | 5 => opcodeRows5
  | 6 => opcodeRows6
  | 7 => opcodeRows7
  | 8 => opcodeRows8
  | 9 => opcodeRows9
  | 10 => opcodeRowsA
  | 11 => opcodeRowsB
  | 12 => opcodeRowsC
  | 13 => opcodeRowsD
  | 14 => opcodeRowsE
  | _ => opcodeRowsF

/-- The 256-entry table indexed by opcode (R43, R91). -/
def opcodeTable : List OpcodeRow := (List.range 16).flatMap opcodeRows

/-- The table's entry for an opcode (R91). -/
def opcodeRow (op : Byte) : OpcodeRow :=
  (opcodeRows (op.toNat / 16)).getD (op.toNat % 16) ⟨0, .brk, .implied, ⟨2, 7, false⟩⟩

/-- How many operand bytes the processor reads in a mode (R59 (2), R92 to R104). -/
def Mode.operandBytes : Mode → Nat
  | .implied | .accumulator => 0
  | .immediate | .zeroPage | .zeroPageX | .zeroPageY | .indexedIndirect | .indirectIndexed | .relative => 1
  | .absolute | .absoluteX | .absoluteY | .indirect => 2

/-- The operand bytes read after opcode `op`: none for `BRK`, whose second byte is padding (R59 (2), R115). -/
def operandBytes (op : Byte) : Nat := (opcodeRow op).mode.operandBytes

/-- Row `0x` of the opcode matrix (R105): the instruction of low nibble `lo`, with operand byte or word. -/
def matrixRow0 (lo : Nat) (b : Byte) (w : Word) : Instr :=
  match lo with
  | 0 => .brk
  | 1 => .oraIndX b
  | 2 => .undoc02
  | 3 => .undoc03 b
  | 4 => .undoc04 b
  | 5 => .oraZp b
  | 6 => .aslZp b
  | 7 => .undoc07 b
  | 8 => .php
  | 9 => .oraImm b
  | 10 => .aslAcc
  | 11 => .undoc0B b
  | 12 => .undoc0C w
  | 13 => .oraAbs w
  | 14 => .aslAbs w
  | _ => .undoc0F w

/-- Row `1x` of the opcode matrix (R105): the instruction of low nibble `lo`, with operand byte or word. -/
def matrixRow1 (lo : Nat) (b : Byte) (w : Word) : Instr :=
  match lo with
  | 0 => .bpl b
  | 1 => .oraIndY b
  | 2 => .undoc12
  | 3 => .undoc13 b
  | 4 => .undoc14 b
  | 5 => .oraZpX b
  | 6 => .aslZpX b
  | 7 => .undoc17 b
  | 8 => .clc
  | 9 => .oraAbsY w
  | 10 => .undoc1A
  | 11 => .undoc1B w
  | 12 => .undoc1C w
  | 13 => .oraAbsX w
  | 14 => .aslAbsX w
  | _ => .undoc1F w

/-- Row `2x` of the opcode matrix (R105): the instruction of low nibble `lo`, with operand byte or word. -/
def matrixRow2 (lo : Nat) (b : Byte) (w : Word) : Instr :=
  match lo with
  | 0 => .jsrAbs w
  | 1 => .andIndX b
  | 2 => .undoc22
  | 3 => .undoc23 b
  | 4 => .bitZp b
  | 5 => .andZp b
  | 6 => .rolZp b
  | 7 => .undoc27 b
  | 8 => .plp
  | 9 => .andImm b
  | 10 => .rolAcc
  | 11 => .undoc2B b
  | 12 => .bitAbs w
  | 13 => .andAbs w
  | 14 => .rolAbs w
  | _ => .undoc2F w

/-- Row `3x` of the opcode matrix (R105): the instruction of low nibble `lo`, with operand byte or word. -/
def matrixRow3 (lo : Nat) (b : Byte) (w : Word) : Instr :=
  match lo with
  | 0 => .bmi b
  | 1 => .andIndY b
  | 2 => .undoc32
  | 3 => .undoc33 b
  | 4 => .undoc34 b
  | 5 => .andZpX b
  | 6 => .rolZpX b
  | 7 => .undoc37 b
  | 8 => .sec
  | 9 => .andAbsY w
  | 10 => .undoc3A
  | 11 => .undoc3B w
  | 12 => .undoc3C w
  | 13 => .andAbsX w
  | 14 => .rolAbsX w
  | _ => .undoc3F w

/-- Row `4x` of the opcode matrix (R105): the instruction of low nibble `lo`, with operand byte or word. -/
def matrixRow4 (lo : Nat) (b : Byte) (w : Word) : Instr :=
  match lo with
  | 0 => .rti
  | 1 => .eorIndX b
  | 2 => .undoc42
  | 3 => .undoc43 b
  | 4 => .undoc44 b
  | 5 => .eorZp b
  | 6 => .lsrZp b
  | 7 => .undoc47 b
  | 8 => .pha
  | 9 => .eorImm b
  | 10 => .lsrAcc
  | 11 => .undoc4B b
  | 12 => .jmpAbs w
  | 13 => .eorAbs w
  | 14 => .lsrAbs w
  | _ => .undoc4F w

/-- Row `5x` of the opcode matrix (R105): the instruction of low nibble `lo`, with operand byte or word. -/
def matrixRow5 (lo : Nat) (b : Byte) (w : Word) : Instr :=
  match lo with
  | 0 => .bvc b
  | 1 => .eorIndY b
  | 2 => .undoc52
  | 3 => .undoc53 b
  | 4 => .undoc54 b
  | 5 => .eorZpX b
  | 6 => .lsrZpX b
  | 7 => .undoc57 b
  | 8 => .cli
  | 9 => .eorAbsY w
  | 10 => .undoc5A
  | 11 => .undoc5B w
  | 12 => .undoc5C w
  | 13 => .eorAbsX w
  | 14 => .lsrAbsX w
  | _ => .undoc5F w

/-- Row `6x` of the opcode matrix (R105): the instruction of low nibble `lo`, with operand byte or word. -/
def matrixRow6 (lo : Nat) (b : Byte) (w : Word) : Instr :=
  match lo with
  | 0 => .rts
  | 1 => .adcIndX b
  | 2 => .undoc62
  | 3 => .undoc63 b
  | 4 => .undoc64 b
  | 5 => .adcZp b
  | 6 => .rorZp b
  | 7 => .undoc67 b
  | 8 => .pla
  | 9 => .adcImm b
  | 10 => .rorAcc
  | 11 => .undoc6B b
  | 12 => .jmpInd w
  | 13 => .adcAbs w
  | 14 => .rorAbs w
  | _ => .undoc6F w

/-- Row `7x` of the opcode matrix (R105): the instruction of low nibble `lo`, with operand byte or word. -/
def matrixRow7 (lo : Nat) (b : Byte) (w : Word) : Instr :=
  match lo with
  | 0 => .bvs b
  | 1 => .adcIndY b
  | 2 => .undoc72
  | 3 => .undoc73 b
  | 4 => .undoc74 b
  | 5 => .adcZpX b
  | 6 => .rorZpX b
  | 7 => .undoc77 b
  | 8 => .sei
  | 9 => .adcAbsY w
  | 10 => .undoc7A
  | 11 => .undoc7B w
  | 12 => .undoc7C w
  | 13 => .adcAbsX w
  | 14 => .rorAbsX w
  | _ => .undoc7F w

/-- Row `8x` of the opcode matrix (R105): the instruction of low nibble `lo`, with operand byte or word. -/
def matrixRow8 (lo : Nat) (b : Byte) (w : Word) : Instr :=
  match lo with
  | 0 => .undoc80 b
  | 1 => .staIndX b
  | 2 => .undoc82 b
  | 3 => .undoc83 b
  | 4 => .styZp b
  | 5 => .staZp b
  | 6 => .stxZp b
  | 7 => .undoc87 b
  | 8 => .dey
  | 9 => .undoc89 b
  | 10 => .txa
  | 11 => .undoc8B b
  | 12 => .styAbs w
  | 13 => .staAbs w
  | 14 => .stxAbs w
  | _ => .undoc8F w

/-- Row `9x` of the opcode matrix (R105): the instruction of low nibble `lo`, with operand byte or word. -/
def matrixRow9 (lo : Nat) (b : Byte) (w : Word) : Instr :=
  match lo with
  | 0 => .bcc b
  | 1 => .staIndY b
  | 2 => .undoc92
  | 3 => .undoc93 b
  | 4 => .styZpX b
  | 5 => .staZpX b
  | 6 => .stxZpY b
  | 7 => .undoc97 b
  | 8 => .tya
  | 9 => .staAbsY w
  | 10 => .txs
  | 11 => .undoc9B w
  | 12 => .undoc9C w
  | 13 => .staAbsX w
  | 14 => .undoc9E w
  | _ => .undoc9F w

/-- Row `Ax` of the opcode matrix (R105): the instruction of low nibble `lo`, with operand byte or word. -/
def matrixRowA (lo : Nat) (b : Byte) (w : Word) : Instr :=
  match lo with
  | 0 => .ldyImm b
  | 1 => .ldaIndX b
  | 2 => .ldxImm b
  | 3 => .undocA3 b
  | 4 => .ldyZp b
  | 5 => .ldaZp b
  | 6 => .ldxZp b
  | 7 => .undocA7 b
  | 8 => .tay
  | 9 => .ldaImm b
  | 10 => .tax
  | 11 => .undocAB b
  | 12 => .ldyAbs w
  | 13 => .ldaAbs w
  | 14 => .ldxAbs w
  | _ => .undocAF w

/-- Row `Bx` of the opcode matrix (R105): the instruction of low nibble `lo`, with operand byte or word. -/
def matrixRowB (lo : Nat) (b : Byte) (w : Word) : Instr :=
  match lo with
  | 0 => .bcs b
  | 1 => .ldaIndY b
  | 2 => .undocB2
  | 3 => .undocB3 b
  | 4 => .ldyZpX b
  | 5 => .ldaZpX b
  | 6 => .ldxZpY b
  | 7 => .undocB7 b
  | 8 => .clv
  | 9 => .ldaAbsY w
  | 10 => .tsx
  | 11 => .undocBB w
  | 12 => .ldyAbsX w
  | 13 => .ldaAbsX w
  | 14 => .ldxAbsY w
  | _ => .undocBF w

/-- Row `Cx` of the opcode matrix (R105): the instruction of low nibble `lo`, with operand byte or word. -/
def matrixRowC (lo : Nat) (b : Byte) (w : Word) : Instr :=
  match lo with
  | 0 => .cpyImm b
  | 1 => .cmpIndX b
  | 2 => .undocC2 b
  | 3 => .undocC3 b
  | 4 => .cpyZp b
  | 5 => .cmpZp b
  | 6 => .decZp b
  | 7 => .undocC7 b
  | 8 => .iny
  | 9 => .cmpImm b
  | 10 => .dex
  | 11 => .undocCB b
  | 12 => .cpyAbs w
  | 13 => .cmpAbs w
  | 14 => .decAbs w
  | _ => .undocCF w

/-- Row `Dx` of the opcode matrix (R105): the instruction of low nibble `lo`, with operand byte or word. -/
def matrixRowD (lo : Nat) (b : Byte) (w : Word) : Instr :=
  match lo with
  | 0 => .bne b
  | 1 => .cmpIndY b
  | 2 => .undocD2
  | 3 => .undocD3 b
  | 4 => .undocD4 b
  | 5 => .cmpZpX b
  | 6 => .decZpX b
  | 7 => .undocD7 b
  | 8 => .cld
  | 9 => .cmpAbsY w
  | 10 => .undocDA
  | 11 => .undocDB w
  | 12 => .undocDC w
  | 13 => .cmpAbsX w
  | 14 => .decAbsX w
  | _ => .undocDF w

/-- Row `Ex` of the opcode matrix (R105): the instruction of low nibble `lo`, with operand byte or word. -/
def matrixRowE (lo : Nat) (b : Byte) (w : Word) : Instr :=
  match lo with
  | 0 => .cpxImm b
  | 1 => .sbcIndX b
  | 2 => .undocE2 b
  | 3 => .undocE3 b
  | 4 => .cpxZp b
  | 5 => .sbcZp b
  | 6 => .incZp b
  | 7 => .undocE7 b
  | 8 => .inx
  | 9 => .sbcImm b
  | 10 => .nop
  | 11 => .undocEB b
  | 12 => .cpxAbs w
  | 13 => .sbcAbs w
  | 14 => .incAbs w
  | _ => .undocEF w

/-- Row `Fx` of the opcode matrix (R105): the instruction of low nibble `lo`, with operand byte or word. -/
def matrixRowF (lo : Nat) (b : Byte) (w : Word) : Instr :=
  match lo with
  | 0 => .beq b
  | 1 => .sbcIndY b
  | 2 => .undocF2
  | 3 => .undocF3 b
  | 4 => .undocF4 b
  | 5 => .sbcZpX b
  | 6 => .incZpX b
  | 7 => .undocF7 b
  | 8 => .sed
  | 9 => .sbcAbsY w
  | 10 => .undocFA
  | 11 => .undocFB w
  | 12 => .undocFC w
  | 13 => .sbcAbsX w
  | 14 => .incAbsX w
  | _ => .undocFF w

/-- R91: the instruction of opcode `op`, whose operand byte is `b` or whose operand word is `w`. Total. -/
def instrAt (op b : Byte) (w : Word) : Instr :=
  match op.toNat / 16 with
  | 0 => matrixRow0 (op.toNat % 16) b w
  | 1 => matrixRow1 (op.toNat % 16) b w
  | 2 => matrixRow2 (op.toNat % 16) b w
  | 3 => matrixRow3 (op.toNat % 16) b w
  | 4 => matrixRow4 (op.toNat % 16) b w
  | 5 => matrixRow5 (op.toNat % 16) b w
  | 6 => matrixRow6 (op.toNat % 16) b w
  | 7 => matrixRow7 (op.toNat % 16) b w
  | 8 => matrixRow8 (op.toNat % 16) b w
  | 9 => matrixRow9 (op.toNat % 16) b w
  | 10 => matrixRowA (op.toNat % 16) b w
  | 11 => matrixRowB (op.toNat % 16) b w
  | 12 => matrixRowC (op.toNat % 16) b w
  | 13 => matrixRowD (op.toNat % 16) b w
  | 14 => matrixRowE (op.toNat % 16) b w
  | _ => matrixRowF (op.toNat % 16) b w

/-- Why a byte sequence is no instruction: it ends too early. No byte value is refused (R109). -/
inductive DecodeError where
  | noOpcode
  | operandMissing
  deriving DecidableEq, Repr

/-- R91: the instruction at the front of a byte sequence, with the bytes after it. `BRK`'s padding byte belongs to the
instruction and is skipped if it is there. -/
def decode : List Byte → Except DecodeError (Instr × List Byte)
  | [] => .error .noOpcode
  | op :: rest =>
    match operandBytes op, rest with
    | 0, _ => .ok (instrAt op 0 0, rest.drop ((opcodeRow op).timing.size - 1))
    | 1, b :: tail => .ok (instrAt op b 0, tail)
    | 2, lo :: hi :: tail => .ok (instrAt op 0 (wordOfBytes lo hi), tail)
    | _, _ => .error .operandMissing

/-- The instruction the decoder reads from the little-endian number `w` of `nbits` bits, the bits above being 0. -/
def decodeTableWord (nbits w : Nat) : Option Instr :=
  let v := w % 2 ^ nbits
  match decode [BitVec.ofNat 8 v, BitVec.ofNat 8 (v / 256), BitVec.ofNat 8 (v / 65536)] with
  | .ok (i, _) => some i
  | .error _ => none

/-- An instruction's opcode byte (R106, R107). -/
def Instr.opcode : Instr → Byte
  | .adcIndX _ => 0x61
  | .adcZp _ => 0x65
  | .adcImm _ => 0x69
  | .adcAbs _ => 0x6D
  | .adcIndY _ => 0x71
  | .adcZpX _ => 0x75
  | .adcAbsY _ => 0x79
  | .adcAbsX _ => 0x7D
  | .andIndX _ => 0x21
  | .andZp _ => 0x25
  | .andImm _ => 0x29
  | .andAbs _ => 0x2D
  | .andIndY _ => 0x31
  | .andZpX _ => 0x35
  | .andAbsY _ => 0x39
  | .andAbsX _ => 0x3D
  | .aslZp _ => 0x06
  | .aslAcc => 0x0A
  | .aslAbs _ => 0x0E
  | .aslZpX _ => 0x16
  | .aslAbsX _ => 0x1E
  | .bcc _ => 0x90
  | .bcs _ => 0xB0
  | .beq _ => 0xF0
  | .bitZp _ => 0x24
  | .bitAbs _ => 0x2C
  | .bmi _ => 0x30
  | .bne _ => 0xD0
  | .bpl _ => 0x10
  | .brk => 0x00
  | .bvc _ => 0x50
  | .bvs _ => 0x70
  | .clc => 0x18
  | .cld => 0xD8
  | .cli => 0x58
  | .clv => 0xB8
  | .cmpIndX _ => 0xC1
  | .cmpZp _ => 0xC5
  | .cmpImm _ => 0xC9
  | .cmpAbs _ => 0xCD
  | .cmpIndY _ => 0xD1
  | .cmpZpX _ => 0xD5
  | .cmpAbsY _ => 0xD9
  | .cmpAbsX _ => 0xDD
  | .cpxImm _ => 0xE0
  | .cpxZp _ => 0xE4
  | .cpxAbs _ => 0xEC
  | .cpyImm _ => 0xC0
  | .cpyZp _ => 0xC4
  | .cpyAbs _ => 0xCC
  | .decZp _ => 0xC6
  | .decAbs _ => 0xCE
  | .decZpX _ => 0xD6
  | .decAbsX _ => 0xDE
  | .dex => 0xCA
  | .dey => 0x88
  | .eorIndX _ => 0x41
  | .eorZp _ => 0x45
  | .eorImm _ => 0x49
  | .eorAbs _ => 0x4D
  | .eorIndY _ => 0x51
  | .eorZpX _ => 0x55
  | .eorAbsY _ => 0x59
  | .eorAbsX _ => 0x5D
  | .incZp _ => 0xE6
  | .incAbs _ => 0xEE
  | .incZpX _ => 0xF6
  | .incAbsX _ => 0xFE
  | .inx => 0xE8
  | .iny => 0xC8
  | .jmpAbs _ => 0x4C
  | .jmpInd _ => 0x6C
  | .jsrAbs _ => 0x20
  | .ldaIndX _ => 0xA1
  | .ldaZp _ => 0xA5
  | .ldaImm _ => 0xA9
  | .ldaAbs _ => 0xAD
  | .ldaIndY _ => 0xB1
  | .ldaZpX _ => 0xB5
  | .ldaAbsY _ => 0xB9
  | .ldaAbsX _ => 0xBD
  | .ldxImm _ => 0xA2
  | .ldxZp _ => 0xA6
  | .ldxAbs _ => 0xAE
  | .ldxZpY _ => 0xB6
  | .ldxAbsY _ => 0xBE
  | .ldyImm _ => 0xA0
  | .ldyZp _ => 0xA4
  | .ldyAbs _ => 0xAC
  | .ldyZpX _ => 0xB4
  | .ldyAbsX _ => 0xBC
  | .lsrZp _ => 0x46
  | .lsrAcc => 0x4A
  | .lsrAbs _ => 0x4E
  | .lsrZpX _ => 0x56
  | .lsrAbsX _ => 0x5E
  | .nop => 0xEA
  | .oraIndX _ => 0x01
  | .oraZp _ => 0x05
  | .oraImm _ => 0x09
  | .oraAbs _ => 0x0D
  | .oraIndY _ => 0x11
  | .oraZpX _ => 0x15
  | .oraAbsY _ => 0x19
  | .oraAbsX _ => 0x1D
  | .pha => 0x48
  | .php => 0x08
  | .pla => 0x68
  | .plp => 0x28
  | .rolZp _ => 0x26
  | .rolAcc => 0x2A
  | .rolAbs _ => 0x2E
  | .rolZpX _ => 0x36
  | .rolAbsX _ => 0x3E
  | .rorZp _ => 0x66
  | .rorAcc => 0x6A
  | .rorAbs _ => 0x6E
  | .rorZpX _ => 0x76
  | .rorAbsX _ => 0x7E
  | .rti => 0x40
  | .rts => 0x60
  | .sbcIndX _ => 0xE1
  | .sbcZp _ => 0xE5
  | .sbcImm _ => 0xE9
  | .sbcAbs _ => 0xED
  | .sbcIndY _ => 0xF1
  | .sbcZpX _ => 0xF5
  | .sbcAbsY _ => 0xF9
  | .sbcAbsX _ => 0xFD
  | .sec => 0x38
  | .sed => 0xF8
  | .sei => 0x78
  | .staIndX _ => 0x81
  | .staZp _ => 0x85
  | .staAbs _ => 0x8D
  | .staIndY _ => 0x91
  | .staZpX _ => 0x95
  | .staAbsY _ => 0x99
  | .staAbsX _ => 0x9D
  | .stxZp _ => 0x86
  | .stxAbs _ => 0x8E
  | .stxZpY _ => 0x96
  | .styZp _ => 0x84
  | .styAbs _ => 0x8C
  | .styZpX _ => 0x94
  | .tax => 0xAA
  | .tay => 0xA8
  | .tsx => 0xBA
  | .txa => 0x8A
  | .txs => 0x9A
  | .tya => 0x98
  | .undoc02 => 0x02
  | .undoc03 _ => 0x03
  | .undoc04 _ => 0x04
  | .undoc07 _ => 0x07
  | .undoc0B _ => 0x0B
  | .undoc0C _ => 0x0C
  | .undoc0F _ => 0x0F
  | .undoc12 => 0x12
  | .undoc13 _ => 0x13
  | .undoc14 _ => 0x14
  | .undoc17 _ => 0x17
  | .undoc1A => 0x1A
  | .undoc1B _ => 0x1B
  | .undoc1C _ => 0x1C
  | .undoc1F _ => 0x1F
  | .undoc22 => 0x22
  | .undoc23 _ => 0x23
  | .undoc27 _ => 0x27
  | .undoc2B _ => 0x2B
  | .undoc2F _ => 0x2F
  | .undoc32 => 0x32
  | .undoc33 _ => 0x33
  | .undoc34 _ => 0x34
  | .undoc37 _ => 0x37
  | .undoc3A => 0x3A
  | .undoc3B _ => 0x3B
  | .undoc3C _ => 0x3C
  | .undoc3F _ => 0x3F
  | .undoc42 => 0x42
  | .undoc43 _ => 0x43
  | .undoc44 _ => 0x44
  | .undoc47 _ => 0x47
  | .undoc4B _ => 0x4B
  | .undoc4F _ => 0x4F
  | .undoc52 => 0x52
  | .undoc53 _ => 0x53
  | .undoc54 _ => 0x54
  | .undoc57 _ => 0x57
  | .undoc5A => 0x5A
  | .undoc5B _ => 0x5B
  | .undoc5C _ => 0x5C
  | .undoc5F _ => 0x5F
  | .undoc62 => 0x62
  | .undoc63 _ => 0x63
  | .undoc64 _ => 0x64
  | .undoc67 _ => 0x67
  | .undoc6B _ => 0x6B
  | .undoc6F _ => 0x6F
  | .undoc72 => 0x72
  | .undoc73 _ => 0x73
  | .undoc74 _ => 0x74
  | .undoc77 _ => 0x77
  | .undoc7A => 0x7A
  | .undoc7B _ => 0x7B
  | .undoc7C _ => 0x7C
  | .undoc7F _ => 0x7F
  | .undoc80 _ => 0x80
  | .undoc82 _ => 0x82
  | .undoc83 _ => 0x83
  | .undoc87 _ => 0x87
  | .undoc89 _ => 0x89
  | .undoc8B _ => 0x8B
  | .undoc8F _ => 0x8F
  | .undoc92 => 0x92
  | .undoc93 _ => 0x93
  | .undoc97 _ => 0x97
  | .undoc9B _ => 0x9B
  | .undoc9C _ => 0x9C
  | .undoc9E _ => 0x9E
  | .undoc9F _ => 0x9F
  | .undocA3 _ => 0xA3
  | .undocA7 _ => 0xA7
  | .undocAB _ => 0xAB
  | .undocAF _ => 0xAF
  | .undocB2 => 0xB2
  | .undocB3 _ => 0xB3
  | .undocB7 _ => 0xB7
  | .undocBB _ => 0xBB
  | .undocBF _ => 0xBF
  | .undocC2 _ => 0xC2
  | .undocC3 _ => 0xC3
  | .undocC7 _ => 0xC7
  | .undocCB _ => 0xCB
  | .undocCF _ => 0xCF
  | .undocD2 => 0xD2
  | .undocD3 _ => 0xD3
  | .undocD4 _ => 0xD4
  | .undocD7 _ => 0xD7
  | .undocDA => 0xDA
  | .undocDB _ => 0xDB
  | .undocDC _ => 0xDC
  | .undocDF _ => 0xDF
  | .undocE2 _ => 0xE2
  | .undocE3 _ => 0xE3
  | .undocE7 _ => 0xE7
  | .undocEB _ => 0xEB
  | .undocEF _ => 0xEF
  | .undocF2 => 0xF2
  | .undocF3 _ => 0xF3
  | .undocF4 _ => 0xF4
  | .undocF7 _ => 0xF7
  | .undocFA => 0xFA
  | .undocFB _ => 0xFB
  | .undocFC _ => 0xFC
  | .undocFF _ => 0xFF

/-- An instruction's operand, in the form of its addressing mode (R106, R107). -/
def Instr.operand : Instr → Operand
  | .adcIndX z => .indexedIndirect z
  | .adcZp z => .zeroPage z
  | .adcImm v => .immediate v
  | .adcAbs a => .absolute a
  | .adcIndY z => .indirectIndexed z
  | .adcZpX z => .zeroPageX z
  | .adcAbsY a => .absoluteY a
  | .adcAbsX a => .absoluteX a
  | .andIndX z => .indexedIndirect z
  | .andZp z => .zeroPage z
  | .andImm v => .immediate v
  | .andAbs a => .absolute a
  | .andIndY z => .indirectIndexed z
  | .andZpX z => .zeroPageX z
  | .andAbsY a => .absoluteY a
  | .andAbsX a => .absoluteX a
  | .aslZp z => .zeroPage z
  | .aslAcc => .accumulator
  | .aslAbs a => .absolute a
  | .aslZpX z => .zeroPageX z
  | .aslAbsX a => .absoluteX a
  | .bcc off => .relative off
  | .bcs off => .relative off
  | .beq off => .relative off
  | .bitZp z => .zeroPage z
  | .bitAbs a => .absolute a
  | .bmi off => .relative off
  | .bne off => .relative off
  | .bpl off => .relative off
  | .brk => .implied
  | .bvc off => .relative off
  | .bvs off => .relative off
  | .clc => .implied
  | .cld => .implied
  | .cli => .implied
  | .clv => .implied
  | .cmpIndX z => .indexedIndirect z
  | .cmpZp z => .zeroPage z
  | .cmpImm v => .immediate v
  | .cmpAbs a => .absolute a
  | .cmpIndY z => .indirectIndexed z
  | .cmpZpX z => .zeroPageX z
  | .cmpAbsY a => .absoluteY a
  | .cmpAbsX a => .absoluteX a
  | .cpxImm v => .immediate v
  | .cpxZp z => .zeroPage z
  | .cpxAbs a => .absolute a
  | .cpyImm v => .immediate v
  | .cpyZp z => .zeroPage z
  | .cpyAbs a => .absolute a
  | .decZp z => .zeroPage z
  | .decAbs a => .absolute a
  | .decZpX z => .zeroPageX z
  | .decAbsX a => .absoluteX a
  | .dex => .implied
  | .dey => .implied
  | .eorIndX z => .indexedIndirect z
  | .eorZp z => .zeroPage z
  | .eorImm v => .immediate v
  | .eorAbs a => .absolute a
  | .eorIndY z => .indirectIndexed z
  | .eorZpX z => .zeroPageX z
  | .eorAbsY a => .absoluteY a
  | .eorAbsX a => .absoluteX a
  | .incZp z => .zeroPage z
  | .incAbs a => .absolute a
  | .incZpX z => .zeroPageX z
  | .incAbsX a => .absoluteX a
  | .inx => .implied
  | .iny => .implied
  | .jmpAbs a => .absolute a
  | .jmpInd p => .indirect p
  | .jsrAbs a => .absolute a
  | .ldaIndX z => .indexedIndirect z
  | .ldaZp z => .zeroPage z
  | .ldaImm v => .immediate v
  | .ldaAbs a => .absolute a
  | .ldaIndY z => .indirectIndexed z
  | .ldaZpX z => .zeroPageX z
  | .ldaAbsY a => .absoluteY a
  | .ldaAbsX a => .absoluteX a
  | .ldxImm v => .immediate v
  | .ldxZp z => .zeroPage z
  | .ldxAbs a => .absolute a
  | .ldxZpY z => .zeroPageY z
  | .ldxAbsY a => .absoluteY a
  | .ldyImm v => .immediate v
  | .ldyZp z => .zeroPage z
  | .ldyAbs a => .absolute a
  | .ldyZpX z => .zeroPageX z
  | .ldyAbsX a => .absoluteX a
  | .lsrZp z => .zeroPage z
  | .lsrAcc => .accumulator
  | .lsrAbs a => .absolute a
  | .lsrZpX z => .zeroPageX z
  | .lsrAbsX a => .absoluteX a
  | .nop => .implied
  | .oraIndX z => .indexedIndirect z
  | .oraZp z => .zeroPage z
  | .oraImm v => .immediate v
  | .oraAbs a => .absolute a
  | .oraIndY z => .indirectIndexed z
  | .oraZpX z => .zeroPageX z
  | .oraAbsY a => .absoluteY a
  | .oraAbsX a => .absoluteX a
  | .pha => .implied
  | .php => .implied
  | .pla => .implied
  | .plp => .implied
  | .rolZp z => .zeroPage z
  | .rolAcc => .accumulator
  | .rolAbs a => .absolute a
  | .rolZpX z => .zeroPageX z
  | .rolAbsX a => .absoluteX a
  | .rorZp z => .zeroPage z
  | .rorAcc => .accumulator
  | .rorAbs a => .absolute a
  | .rorZpX z => .zeroPageX z
  | .rorAbsX a => .absoluteX a
  | .rti => .implied
  | .rts => .implied
  | .sbcIndX z => .indexedIndirect z
  | .sbcZp z => .zeroPage z
  | .sbcImm v => .immediate v
  | .sbcAbs a => .absolute a
  | .sbcIndY z => .indirectIndexed z
  | .sbcZpX z => .zeroPageX z
  | .sbcAbsY a => .absoluteY a
  | .sbcAbsX a => .absoluteX a
  | .sec => .implied
  | .sed => .implied
  | .sei => .implied
  | .staIndX z => .indexedIndirect z
  | .staZp z => .zeroPage z
  | .staAbs a => .absolute a
  | .staIndY z => .indirectIndexed z
  | .staZpX z => .zeroPageX z
  | .staAbsY a => .absoluteY a
  | .staAbsX a => .absoluteX a
  | .stxZp z => .zeroPage z
  | .stxAbs a => .absolute a
  | .stxZpY z => .zeroPageY z
  | .styZp z => .zeroPage z
  | .styAbs a => .absolute a
  | .styZpX z => .zeroPageX z
  | .tax => .implied
  | .tay => .implied
  | .tsx => .implied
  | .txa => .implied
  | .txs => .implied
  | .tya => .implied
  | .undoc02 => .implied
  | .undoc03 z => .indexedIndirect z
  | .undoc04 z => .zeroPage z
  | .undoc07 z => .zeroPage z
  | .undoc0B v => .immediate v
  | .undoc0C a => .absolute a
  | .undoc0F a => .absolute a
  | .undoc12 => .implied
  | .undoc13 z => .indirectIndexed z
  | .undoc14 z => .zeroPageX z
  | .undoc17 z => .zeroPageX z
  | .undoc1A => .implied
  | .undoc1B a => .absoluteY a
  | .undoc1C a => .absoluteX a
  | .undoc1F a => .absoluteX a
  | .undoc22 => .implied
  | .undoc23 z => .indexedIndirect z
  | .undoc27 z => .zeroPage z
  | .undoc2B v => .immediate v
  | .undoc2F a => .absolute a
  | .undoc32 => .implied
  | .undoc33 z => .indirectIndexed z
  | .undoc34 z => .zeroPageX z
  | .undoc37 z => .zeroPageX z
  | .undoc3A => .implied
  | .undoc3B a => .absoluteY a
  | .undoc3C a => .absoluteX a
  | .undoc3F a => .absoluteX a
  | .undoc42 => .implied
  | .undoc43 z => .indexedIndirect z
  | .undoc44 z => .zeroPage z
  | .undoc47 z => .zeroPage z
  | .undoc4B v => .immediate v
  | .undoc4F a => .absolute a
  | .undoc52 => .implied
  | .undoc53 z => .indirectIndexed z
  | .undoc54 z => .zeroPageX z
  | .undoc57 z => .zeroPageX z
  | .undoc5A => .implied
  | .undoc5B a => .absoluteY a
  | .undoc5C a => .absoluteX a
  | .undoc5F a => .absoluteX a
  | .undoc62 => .implied
  | .undoc63 z => .indexedIndirect z
  | .undoc64 z => .zeroPage z
  | .undoc67 z => .zeroPage z
  | .undoc6B v => .immediate v
  | .undoc6F a => .absolute a
  | .undoc72 => .implied
  | .undoc73 z => .indirectIndexed z
  | .undoc74 z => .zeroPageX z
  | .undoc77 z => .zeroPageX z
  | .undoc7A => .implied
  | .undoc7B a => .absoluteY a
  | .undoc7C a => .absoluteX a
  | .undoc7F a => .absoluteX a
  | .undoc80 v => .immediate v
  | .undoc82 v => .immediate v
  | .undoc83 z => .indexedIndirect z
  | .undoc87 z => .zeroPage z
  | .undoc89 v => .immediate v
  | .undoc8B v => .immediate v
  | .undoc8F a => .absolute a
  | .undoc92 => .implied
  | .undoc93 z => .indirectIndexed z
  | .undoc97 z => .zeroPageY z
  | .undoc9B a => .absoluteY a
  | .undoc9C a => .absoluteX a
  | .undoc9E a => .absoluteY a
  | .undoc9F a => .absoluteY a
  | .undocA3 z => .indexedIndirect z
  | .undocA7 z => .zeroPage z
  | .undocAB v => .immediate v
  | .undocAF a => .absolute a
  | .undocB2 => .implied
  | .undocB3 z => .indirectIndexed z
  | .undocB7 z => .zeroPageY z
  | .undocBB a => .absoluteY a
  | .undocBF a => .absoluteY a
  | .undocC2 v => .immediate v
  | .undocC3 z => .indexedIndirect z
  | .undocC7 z => .zeroPage z
  | .undocCB v => .immediate v
  | .undocCF a => .absolute a
  | .undocD2 => .implied
  | .undocD3 z => .indirectIndexed z
  | .undocD4 z => .zeroPageX z
  | .undocD7 z => .zeroPageX z
  | .undocDA => .implied
  | .undocDB a => .absoluteY a
  | .undocDC a => .absoluteX a
  | .undocDF a => .absoluteX a
  | .undocE2 v => .immediate v
  | .undocE3 z => .indexedIndirect z
  | .undocE7 z => .zeroPage z
  | .undocEB v => .immediate v
  | .undocEF a => .absolute a
  | .undocF2 => .implied
  | .undocF3 z => .indirectIndexed z
  | .undocF4 z => .zeroPageX z
  | .undocF7 z => .zeroPageX z
  | .undocFA => .implied
  | .undocFB a => .absoluteY a
  | .undocFC a => .absoluteX a
  | .undocFF a => .absoluteX a

/-- An instruction's mnemonic (R106, R107). -/
def Instr.mnemonic : Instr → Mnemonic
  | .adcIndX _ | .adcZp _ | .adcImm _ | .adcAbs _ | .adcIndY _ | .adcZpX _ | .adcAbsY _
  | .adcAbsX _ => .adc
  | .andIndX _ | .andZp _ | .andImm _ | .andAbs _ | .andIndY _ | .andZpX _ | .andAbsY _
  | .andAbsX _ => .and
  | .aslZp _ | .aslAcc | .aslAbs _ | .aslZpX _ | .aslAbsX _ => .asl
  | .bcc _ => .bcc
  | .bcs _ => .bcs
  | .beq _ => .beq
  | .bitZp _ | .bitAbs _ => .bit
  | .bmi _ => .bmi
  | .bne _ => .bne
  | .bpl _ => .bpl
  | .brk => .brk
  | .bvc _ => .bvc
  | .bvs _ => .bvs
  | .clc => .clc
  | .cld => .cld
  | .cli => .cli
  | .clv => .clv
  | .cmpIndX _ | .cmpZp _ | .cmpImm _ | .cmpAbs _ | .cmpIndY _ | .cmpZpX _ | .cmpAbsY _
  | .cmpAbsX _ => .cmp
  | .cpxImm _ | .cpxZp _ | .cpxAbs _ => .cpx
  | .cpyImm _ | .cpyZp _ | .cpyAbs _ => .cpy
  | .decZp _ | .decAbs _ | .decZpX _ | .decAbsX _ => .dec
  | .dex => .dex
  | .dey => .dey
  | .eorIndX _ | .eorZp _ | .eorImm _ | .eorAbs _ | .eorIndY _ | .eorZpX _ | .eorAbsY _
  | .eorAbsX _ => .eor
  | .incZp _ | .incAbs _ | .incZpX _ | .incAbsX _ => .inc
  | .inx => .inx
  | .iny => .iny
  | .jmpAbs _ | .jmpInd _ => .jmp
  | .jsrAbs _ => .jsr
  | .ldaIndX _ | .ldaZp _ | .ldaImm _ | .ldaAbs _ | .ldaIndY _ | .ldaZpX _ | .ldaAbsY _
  | .ldaAbsX _ => .lda
  | .ldxImm _ | .ldxZp _ | .ldxAbs _ | .ldxZpY _ | .ldxAbsY _ => .ldx
  | .ldyImm _ | .ldyZp _ | .ldyAbs _ | .ldyZpX _ | .ldyAbsX _ => .ldy
  | .lsrZp _ | .lsrAcc | .lsrAbs _ | .lsrZpX _ | .lsrAbsX _ => .lsr
  | .nop => .nop
  | .oraIndX _ | .oraZp _ | .oraImm _ | .oraAbs _ | .oraIndY _ | .oraZpX _ | .oraAbsY _
  | .oraAbsX _ => .ora
  | .pha => .pha
  | .php => .php
  | .pla => .pla
  | .plp => .plp
  | .rolZp _ | .rolAcc | .rolAbs _ | .rolZpX _ | .rolAbsX _ => .rol
  | .rorZp _ | .rorAcc | .rorAbs _ | .rorZpX _ | .rorAbsX _ => .ror
  | .rti => .rti
  | .rts => .rts
  | .sbcIndX _ | .sbcZp _ | .sbcImm _ | .sbcAbs _ | .sbcIndY _ | .sbcZpX _ | .sbcAbsY _
  | .sbcAbsX _ => .sbc
  | .sec => .sec
  | .sed => .sed
  | .sei => .sei
  | .staIndX _ | .staZp _ | .staAbs _ | .staIndY _ | .staZpX _ | .staAbsY _ | .staAbsX _ => .sta
  | .stxZp _ | .stxAbs _ | .stxZpY _ => .stx
  | .styZp _ | .styAbs _ | .styZpX _ => .sty
  | .tax => .tax
  | .tay => .tay
  | .tsx => .tsx
  | .txa => .txa
  | .txs => .txs
  | .tya => .tya
  | .undoc02 | .undoc03 _ | .undoc04 _ | .undoc07 _ | .undoc0B _ | .undoc0C _ | .undoc0F _
  | .undoc12 | .undoc13 _ | .undoc14 _ | .undoc17 _ | .undoc1A | .undoc1B _ | .undoc1C _
  | .undoc1F _ | .undoc22 | .undoc23 _ | .undoc27 _ | .undoc2B _ | .undoc2F _ | .undoc32
  | .undoc33 _ | .undoc34 _ | .undoc37 _ | .undoc3A | .undoc3B _ | .undoc3C _ | .undoc3F _
  | .undoc42 | .undoc43 _ | .undoc44 _ | .undoc47 _ | .undoc4B _ | .undoc4F _ | .undoc52
  | .undoc53 _ | .undoc54 _ | .undoc57 _ | .undoc5A | .undoc5B _ | .undoc5C _ | .undoc5F _
  | .undoc62 | .undoc63 _ | .undoc64 _ | .undoc67 _ | .undoc6B _ | .undoc6F _ | .undoc72
  | .undoc73 _ | .undoc74 _ | .undoc77 _ | .undoc7A | .undoc7B _ | .undoc7C _ | .undoc7F _
  | .undoc80 _ | .undoc82 _ | .undoc83 _ | .undoc87 _ | .undoc89 _ | .undoc8B _ | .undoc8F _
  | .undoc92 | .undoc93 _ | .undoc97 _ | .undoc9B _ | .undoc9C _ | .undoc9E _ | .undoc9F _
  | .undocA3 _ | .undocA7 _ | .undocAB _ | .undocAF _ | .undocB2 | .undocB3 _ | .undocB7 _
  | .undocBB _ | .undocBF _ | .undocC2 _ | .undocC3 _ | .undocC7 _ | .undocCB _ | .undocCF _
  | .undocD2 | .undocD3 _ | .undocD4 _ | .undocD7 _ | .undocDA | .undocDB _ | .undocDC _
  | .undocDF _ | .undocE2 _ | .undocE3 _ | .undocE7 _ | .undocEB _ | .undocEF _ | .undocF2
  | .undocF3 _ | .undocF4 _ | .undocF7 _ | .undocFA | .undocFB _ | .undocFC _ | .undocFF _ => .undoc

/-- An instruction's size, base cycles and page penalty (R90, R106, R107, R111). -/
def Instr.timing : Instr → Timing
  | .adcIndX _ => ⟨2, 6, false⟩
  | .adcZp _ => ⟨2, 3, false⟩
  | .adcImm _ => ⟨2, 2, false⟩
  | .adcAbs _ => ⟨3, 4, false⟩
  | .adcIndY _ => ⟨2, 5, true⟩
  | .adcZpX _ => ⟨2, 4, false⟩
  | .adcAbsY _ => ⟨3, 4, true⟩
  | .adcAbsX _ => ⟨3, 4, true⟩
  | .andIndX _ => ⟨2, 6, false⟩
  | .andZp _ => ⟨2, 3, false⟩
  | .andImm _ => ⟨2, 2, false⟩
  | .andAbs _ => ⟨3, 4, false⟩
  | .andIndY _ => ⟨2, 5, true⟩
  | .andZpX _ => ⟨2, 4, false⟩
  | .andAbsY _ => ⟨3, 4, true⟩
  | .andAbsX _ => ⟨3, 4, true⟩
  | .aslZp _ => ⟨2, 5, false⟩
  | .aslAcc => ⟨1, 2, false⟩
  | .aslAbs _ => ⟨3, 6, false⟩
  | .aslZpX _ => ⟨2, 6, false⟩
  | .aslAbsX _ => ⟨3, 7, false⟩
  | .bcc _ => ⟨2, 2, false⟩
  | .bcs _ => ⟨2, 2, false⟩
  | .beq _ => ⟨2, 2, false⟩
  | .bitZp _ => ⟨2, 3, false⟩
  | .bitAbs _ => ⟨3, 4, false⟩
  | .bmi _ => ⟨2, 2, false⟩
  | .bne _ => ⟨2, 2, false⟩
  | .bpl _ => ⟨2, 2, false⟩
  | .brk => ⟨2, 7, false⟩
  | .bvc _ => ⟨2, 2, false⟩
  | .bvs _ => ⟨2, 2, false⟩
  | .clc => ⟨1, 2, false⟩
  | .cld => ⟨1, 2, false⟩
  | .cli => ⟨1, 2, false⟩
  | .clv => ⟨1, 2, false⟩
  | .cmpIndX _ => ⟨2, 6, false⟩
  | .cmpZp _ => ⟨2, 3, false⟩
  | .cmpImm _ => ⟨2, 2, false⟩
  | .cmpAbs _ => ⟨3, 4, false⟩
  | .cmpIndY _ => ⟨2, 5, true⟩
  | .cmpZpX _ => ⟨2, 4, false⟩
  | .cmpAbsY _ => ⟨3, 4, true⟩
  | .cmpAbsX _ => ⟨3, 4, true⟩
  | .cpxImm _ => ⟨2, 2, false⟩
  | .cpxZp _ => ⟨2, 3, false⟩
  | .cpxAbs _ => ⟨3, 4, false⟩
  | .cpyImm _ => ⟨2, 2, false⟩
  | .cpyZp _ => ⟨2, 3, false⟩
  | .cpyAbs _ => ⟨3, 4, false⟩
  | .decZp _ => ⟨2, 5, false⟩
  | .decAbs _ => ⟨3, 6, false⟩
  | .decZpX _ => ⟨2, 6, false⟩
  | .decAbsX _ => ⟨3, 7, false⟩
  | .dex => ⟨1, 2, false⟩
  | .dey => ⟨1, 2, false⟩
  | .eorIndX _ => ⟨2, 6, false⟩
  | .eorZp _ => ⟨2, 3, false⟩
  | .eorImm _ => ⟨2, 2, false⟩
  | .eorAbs _ => ⟨3, 4, false⟩
  | .eorIndY _ => ⟨2, 5, true⟩
  | .eorZpX _ => ⟨2, 4, false⟩
  | .eorAbsY _ => ⟨3, 4, true⟩
  | .eorAbsX _ => ⟨3, 4, true⟩
  | .incZp _ => ⟨2, 5, false⟩
  | .incAbs _ => ⟨3, 6, false⟩
  | .incZpX _ => ⟨2, 6, false⟩
  | .incAbsX _ => ⟨3, 7, false⟩
  | .inx => ⟨1, 2, false⟩
  | .iny => ⟨1, 2, false⟩
  | .jmpAbs _ => ⟨3, 3, false⟩
  | .jmpInd _ => ⟨3, 5, false⟩
  | .jsrAbs _ => ⟨3, 6, false⟩
  | .ldaIndX _ => ⟨2, 6, false⟩
  | .ldaZp _ => ⟨2, 3, false⟩
  | .ldaImm _ => ⟨2, 2, false⟩
  | .ldaAbs _ => ⟨3, 4, false⟩
  | .ldaIndY _ => ⟨2, 5, true⟩
  | .ldaZpX _ => ⟨2, 4, false⟩
  | .ldaAbsY _ => ⟨3, 4, true⟩
  | .ldaAbsX _ => ⟨3, 4, true⟩
  | .ldxImm _ => ⟨2, 2, false⟩
  | .ldxZp _ => ⟨2, 3, false⟩
  | .ldxAbs _ => ⟨3, 4, false⟩
  | .ldxZpY _ => ⟨2, 4, false⟩
  | .ldxAbsY _ => ⟨3, 4, true⟩
  | .ldyImm _ => ⟨2, 2, false⟩
  | .ldyZp _ => ⟨2, 3, false⟩
  | .ldyAbs _ => ⟨3, 4, false⟩
  | .ldyZpX _ => ⟨2, 4, false⟩
  | .ldyAbsX _ => ⟨3, 4, true⟩
  | .lsrZp _ => ⟨2, 5, false⟩
  | .lsrAcc => ⟨1, 2, false⟩
  | .lsrAbs _ => ⟨3, 6, false⟩
  | .lsrZpX _ => ⟨2, 6, false⟩
  | .lsrAbsX _ => ⟨3, 7, false⟩
  | .nop => ⟨1, 2, false⟩
  | .oraIndX _ => ⟨2, 6, false⟩
  | .oraZp _ => ⟨2, 3, false⟩
  | .oraImm _ => ⟨2, 2, false⟩
  | .oraAbs _ => ⟨3, 4, false⟩
  | .oraIndY _ => ⟨2, 5, true⟩
  | .oraZpX _ => ⟨2, 4, false⟩
  | .oraAbsY _ => ⟨3, 4, true⟩
  | .oraAbsX _ => ⟨3, 4, true⟩
  | .pha => ⟨1, 3, false⟩
  | .php => ⟨1, 3, false⟩
  | .pla => ⟨1, 4, false⟩
  | .plp => ⟨1, 4, false⟩
  | .rolZp _ => ⟨2, 5, false⟩
  | .rolAcc => ⟨1, 2, false⟩
  | .rolAbs _ => ⟨3, 6, false⟩
  | .rolZpX _ => ⟨2, 6, false⟩
  | .rolAbsX _ => ⟨3, 7, false⟩
  | .rorZp _ => ⟨2, 5, false⟩
  | .rorAcc => ⟨1, 2, false⟩
  | .rorAbs _ => ⟨3, 6, false⟩
  | .rorZpX _ => ⟨2, 6, false⟩
  | .rorAbsX _ => ⟨3, 7, false⟩
  | .rti => ⟨1, 6, false⟩
  | .rts => ⟨1, 6, false⟩
  | .sbcIndX _ => ⟨2, 6, false⟩
  | .sbcZp _ => ⟨2, 3, false⟩
  | .sbcImm _ => ⟨2, 2, false⟩
  | .sbcAbs _ => ⟨3, 4, false⟩
  | .sbcIndY _ => ⟨2, 5, true⟩
  | .sbcZpX _ => ⟨2, 4, false⟩
  | .sbcAbsY _ => ⟨3, 4, true⟩
  | .sbcAbsX _ => ⟨3, 4, true⟩
  | .sec => ⟨1, 2, false⟩
  | .sed => ⟨1, 2, false⟩
  | .sei => ⟨1, 2, false⟩
  | .staIndX _ => ⟨2, 6, false⟩
  | .staZp _ => ⟨2, 3, false⟩
  | .staAbs _ => ⟨3, 4, false⟩
  | .staIndY _ => ⟨2, 6, false⟩
  | .staZpX _ => ⟨2, 4, false⟩
  | .staAbsY _ => ⟨3, 5, false⟩
  | .staAbsX _ => ⟨3, 5, false⟩
  | .stxZp _ => ⟨2, 3, false⟩
  | .stxAbs _ => ⟨3, 4, false⟩
  | .stxZpY _ => ⟨2, 4, false⟩
  | .styZp _ => ⟨2, 3, false⟩
  | .styAbs _ => ⟨3, 4, false⟩
  | .styZpX _ => ⟨2, 4, false⟩
  | .tax => ⟨1, 2, false⟩
  | .tay => ⟨1, 2, false⟩
  | .tsx => ⟨1, 2, false⟩
  | .txa => ⟨1, 2, false⟩
  | .txs => ⟨1, 2, false⟩
  | .tya => ⟨1, 2, false⟩
  | .undoc02 => ⟨1, 2, false⟩
  | .undoc03 _ => ⟨2, 8, false⟩
  | .undoc04 _ => ⟨2, 3, false⟩
  | .undoc07 _ => ⟨2, 5, false⟩
  | .undoc0B _ => ⟨2, 2, false⟩
  | .undoc0C _ => ⟨3, 4, false⟩
  | .undoc0F _ => ⟨3, 6, false⟩
  | .undoc12 => ⟨1, 2, false⟩
  | .undoc13 _ => ⟨2, 8, false⟩
  | .undoc14 _ => ⟨2, 4, false⟩
  | .undoc17 _ => ⟨2, 6, false⟩
  | .undoc1A => ⟨1, 2, false⟩
  | .undoc1B _ => ⟨3, 7, false⟩
  | .undoc1C _ => ⟨3, 4, true⟩
  | .undoc1F _ => ⟨3, 7, false⟩
  | .undoc22 => ⟨1, 2, false⟩
  | .undoc23 _ => ⟨2, 8, false⟩
  | .undoc27 _ => ⟨2, 5, false⟩
  | .undoc2B _ => ⟨2, 2, false⟩
  | .undoc2F _ => ⟨3, 6, false⟩
  | .undoc32 => ⟨1, 2, false⟩
  | .undoc33 _ => ⟨2, 8, false⟩
  | .undoc34 _ => ⟨2, 4, false⟩
  | .undoc37 _ => ⟨2, 6, false⟩
  | .undoc3A => ⟨1, 2, false⟩
  | .undoc3B _ => ⟨3, 7, false⟩
  | .undoc3C _ => ⟨3, 4, true⟩
  | .undoc3F _ => ⟨3, 7, false⟩
  | .undoc42 => ⟨1, 2, false⟩
  | .undoc43 _ => ⟨2, 8, false⟩
  | .undoc44 _ => ⟨2, 3, false⟩
  | .undoc47 _ => ⟨2, 5, false⟩
  | .undoc4B _ => ⟨2, 2, false⟩
  | .undoc4F _ => ⟨3, 6, false⟩
  | .undoc52 => ⟨1, 2, false⟩
  | .undoc53 _ => ⟨2, 8, false⟩
  | .undoc54 _ => ⟨2, 4, false⟩
  | .undoc57 _ => ⟨2, 6, false⟩
  | .undoc5A => ⟨1, 2, false⟩
  | .undoc5B _ => ⟨3, 7, false⟩
  | .undoc5C _ => ⟨3, 4, true⟩
  | .undoc5F _ => ⟨3, 7, false⟩
  | .undoc62 => ⟨1, 2, false⟩
  | .undoc63 _ => ⟨2, 8, false⟩
  | .undoc64 _ => ⟨2, 3, false⟩
  | .undoc67 _ => ⟨2, 5, false⟩
  | .undoc6B _ => ⟨2, 2, false⟩
  | .undoc6F _ => ⟨3, 6, false⟩
  | .undoc72 => ⟨1, 2, false⟩
  | .undoc73 _ => ⟨2, 8, false⟩
  | .undoc74 _ => ⟨2, 4, false⟩
  | .undoc77 _ => ⟨2, 6, false⟩
  | .undoc7A => ⟨1, 2, false⟩
  | .undoc7B _ => ⟨3, 7, false⟩
  | .undoc7C _ => ⟨3, 4, true⟩
  | .undoc7F _ => ⟨3, 7, false⟩
  | .undoc80 _ => ⟨2, 2, false⟩
  | .undoc82 _ => ⟨2, 2, false⟩
  | .undoc83 _ => ⟨2, 6, false⟩
  | .undoc87 _ => ⟨2, 3, false⟩
  | .undoc89 _ => ⟨2, 2, false⟩
  | .undoc8B _ => ⟨2, 2, false⟩
  | .undoc8F _ => ⟨3, 4, false⟩
  | .undoc92 => ⟨1, 2, false⟩
  | .undoc93 _ => ⟨2, 6, false⟩
  | .undoc97 _ => ⟨2, 4, false⟩
  | .undoc9B _ => ⟨3, 5, false⟩
  | .undoc9C _ => ⟨3, 5, false⟩
  | .undoc9E _ => ⟨3, 5, false⟩
  | .undoc9F _ => ⟨3, 5, false⟩
  | .undocA3 _ => ⟨2, 6, false⟩
  | .undocA7 _ => ⟨2, 3, false⟩
  | .undocAB _ => ⟨2, 2, false⟩
  | .undocAF _ => ⟨3, 4, false⟩
  | .undocB2 => ⟨1, 2, false⟩
  | .undocB3 _ => ⟨2, 5, true⟩
  | .undocB7 _ => ⟨2, 4, false⟩
  | .undocBB _ => ⟨3, 4, true⟩
  | .undocBF _ => ⟨3, 4, true⟩
  | .undocC2 _ => ⟨2, 2, false⟩
  | .undocC3 _ => ⟨2, 8, false⟩
  | .undocC7 _ => ⟨2, 5, false⟩
  | .undocCB _ => ⟨2, 2, false⟩
  | .undocCF _ => ⟨3, 6, false⟩
  | .undocD2 => ⟨1, 2, false⟩
  | .undocD3 _ => ⟨2, 8, false⟩
  | .undocD4 _ => ⟨2, 4, false⟩
  | .undocD7 _ => ⟨2, 6, false⟩
  | .undocDA => ⟨1, 2, false⟩
  | .undocDB _ => ⟨3, 7, false⟩
  | .undocDC _ => ⟨3, 4, true⟩
  | .undocDF _ => ⟨3, 7, false⟩
  | .undocE2 _ => ⟨2, 2, false⟩
  | .undocE3 _ => ⟨2, 8, false⟩
  | .undocE7 _ => ⟨2, 5, false⟩
  | .undocEB _ => ⟨2, 2, false⟩
  | .undocEF _ => ⟨3, 6, false⟩
  | .undocF2 => ⟨1, 2, false⟩
  | .undocF3 _ => ⟨2, 8, false⟩
  | .undocF4 _ => ⟨2, 4, false⟩
  | .undocF7 _ => ⟨2, 6, false⟩
  | .undocFA => ⟨1, 2, false⟩
  | .undocFB _ => ⟨3, 7, false⟩
  | .undocFC _ => ⟨3, 4, true⟩
  | .undocFF _ => ⟨3, 7, false⟩

/-- The addressing mode of an operand. -/
def Operand.mode : Operand → Mode
  | .implied => .implied
  | .accumulator => .accumulator
  | .immediate _ => .immediate
  | .zeroPage _ => .zeroPage
  | .zeroPageX _ => .zeroPageX
  | .zeroPageY _ => .zeroPageY
  | .absolute _ => .absolute
  | .absoluteX _ => .absoluteX
  | .absoluteY _ => .absoluteY
  | .indirect _ => .indirect
  | .indexedIndirect _ => .indexedIndirect
  | .indirectIndexed _ => .indirectIndexed
  | .relative _ => .relative

/-- The bytes an operand stands as in the instruction (R90): none, one, or a little-endian word. -/
def Operand.bytes : Operand → List Byte
  | .implied | .accumulator => []
  | .immediate b | .zeroPage b | .zeroPageX b | .zeroPageY b | .indexedIndirect b | .indirectIndexed b | .relative b => [b]
  | .absolute w | .absoluteX w | .absoluteY w | .indirect w => [loByte w, hiByte w]

/-- The encoder: the opcode, the operand bytes, and for `BRK` a padding byte, written as 0 (R115, log entry 15). -/
def encode (i : Instr) : List Byte :=
  i.opcode :: i.operand.bytes ++ (if i.mnemonic = .brk then [0] else [])

end Sys2Proof
end

