-- ==== Sys2Proof/Config.lean ====
section
/-! DEFINITION. What an implementation fixes (R5's parameters) and the free values of the model: uninterpreted
constants without a body, for what the spec leaves open. -/

namespace Sys2Proof

/-- One background tile as the picture processor fetched it (R351): the nametable, attribute, low pattern and high
pattern bytes, and the VRAM address `v` they were fetched for. -/
structure BgTile where
  nametable : Byte
  attribs   : Byte
  low       : Byte
  high      : Byte
  v         : BitVec 15
  deriving DecidableEq, Repr

namespace Config

/-- R5 `STACK_PAGE`: the stack lives in page `$01`. -/
def stackPage : Word := 0x0100

/-- R60 (2), D2: the NMI vector. -/
def nmiVector : Word := 0xFFFA

/-- R60 (3): the reset vector. -/
def resetVector : Word := 0xFFFC

/-- R60 (4), D2: the IRQ and BRK vector. -/
def irqVector : Word := 0xFFFE

/-- R5 `RESET_SP`. -/
def resetSp : Byte := 0xFD

/-- R5 `A0`, `X0`, `Y0`: open parameters; the spec's convenience default (DESIGN CHOICE, log entry 1). -/
def powerOnRegister : Byte := 0x00

/-- R5 `INT_CYCLES`. -/
def interruptCycles : Nat := 7

/-- R5 `PPU_PER_CPU`. -/
def ppuPerCpu : Nat := 3

/-- R5 `APU_PER_CPU`. -/
def apuPerCpu : Nat := 1

/-- R5 `NMI_DELAY`, "a tunable compatibility parameter" (log entry 18). -/
def nmiDelay : Nat := 15

/-- R5 `OAM_DMA_STALL`, without the odd-cycle unit. -/
def oamDmaStall : Nat := 513

/-- R5 `CART_BASE`. -/
def cartBase : Nat := 0x4100

/-- FREE VALUE. The `n`-th byte the spec leaves open: a read of a write-only port, the undriven bits of the status
port, a controller, audio or mapper read whose reply the environment has not supplied (U9 to U13; log entry 5). -/
opaque freeByte : Nat → Byte

/-- OPEN PARAMETER. R5 `CPU_FREQUENCY`, used by `Run(deltaTime)` only (D22). The spec gives it no number type: that it is
a whole number of cycles per second is the model's choice (DESIGN CHOICE, log entry 20). -/
opaque cpuFrequency : Nat

/-- FREE FUNCTION. The cell, inside the nametable memory, behind an offset in the nametable range under the mirroring
mode the mapper announced last, if any; what each mode means is not in the spec (R72, N19, log entry 9). -/
opaque nametableCell : Option Nat → BitVec 13 → BitVec 12

/-- FREE FUNCTION. The address of the nametable fetch for a VRAM address; not in the spec (R4 (7), log entry 12). -/
opaque nametableAddress : BitVec 15 → BitVec 14

/-- FREE FUNCTION. The address of the attribute fetch for a VRAM address; not in the spec (log entry 12). -/
opaque attributeAddress : BitVec 15 → BitVec 14

/-- FREE FUNCTION. The place, inside its pattern table, of a tile's row: tile index, row 0 to 7, and whether it is
the high pattern byte; not in the spec (log entry 12). -/
opaque patternOffset : Byte → Nat → Bool → BitVec 12

/-- FREE FUNCTION. Which bit of a tile row's two pattern bytes belongs to a column 0 to 7 of the tile; not in the spec
(log entry 12). -/
opaque patternColumn : Nat → Nat

/-- FREE FUNCTION. The 4-bit background pixel at a dot, from the older and the newer tile of the shift data, the
fine scroll and the dot's cycle; the shift registers are out of scope (R4 (7), log entry 12). -/
opaque backgroundPixel : BgTile → BgTile → BitVec 3 → Nat → BitVec 4

end Config

end Sys2Proof
end

