-- ==== Sys2Proof/Machine/Parts.lean ====
section
/-! DEFINITION. The pieces State is made of: memories, the processor's registers, its pending events, the bus wiring,
the picture processor, and the replies of the collaborators the spec leaves open (audio unit, mapper, controllers). -/

namespace Sys2Proof.Machine

/-- A byte memory in canonical form: addresses strictly rising, no byte equal to 0, which is what an unlisted address
reads as (R63, D19: the backing array is all zero at construction). -/
abbrev Memory := List Host.Cell

/-- The stored flags of the status register `P` (R26). Bit 5 is always 1 (R35) and `B` is constant 0 (R34): neither is
stored. -/
structure Flags where
  c : Bool
  z : Bool
  i : Bool
  d : Bool
  v : Bool
  n : Bool
  deriving DecidableEq, Repr

/-- The processor's registers and its cycle counter (R20 to R38). -/
structure Cpu where
  a      : Byte
  x      : Byte
  y      : Byte
  sp     : Byte
  pc     : Word
  p      : Flags
  cycles : Nat
  deriving DecidableEq, Repr

/-- The identifiers of R5 `IRQ_SOURCES`. -/
inductive IrqSource where
  | apuFrame | apuDmc | mapper
  deriving DecidableEq, Repr

/-- The set `irq_sources` (R41): which of the three sources are asserted. -/
structure IrqSources where
  apuFrame : Bool
  apuDmc   : Bool
  mapper   : Bool
  deriving DecidableEq, Repr

/-- The pending events the processor looks at between instructions (R39, R40, R41). -/
structure Lines where
  stall      : Nat
  nmiPending : Bool
  irq        : IrqSources
  deriving DecidableEq, Repr

/-- What a bus slot's handler is (R62, R71's tagged descriptors): the backing array, a mirror redirect, one of the
console's ports, the cartridge's callback, or a cartridge handler that does nothing (a write to ROM). -/
inductive Handler where
  | ram
  | redirect (base segmentLength : Nat)
  | ppuPort
  | oamDma
  | apu
  | controller (second : Bool)
  | mapper
  | ignored
  deriving DecidableEq, Repr

/-- The handlers of the addresses `first` to `last`, both inclusive. -/
structure Span where
  first   : Nat
  last    : Nat
  handler : Handler
  deriving DecidableEq, Repr

/-- The memory bus (R44, R62): the backing array and the read and write wiring. In a list of spans the first one that
holds an address counts; an address in none has the default handler. -/
structure Bus where
  backing    : Memory
  readSlots  : List Span
  writeSlots : List Span
  deriving DecidableEq, Repr

/-- A sprite retained by the evaluation of a line (R340, R354). -/
structure Sprite where
  pattern : BitVec 32
  x       : Byte
  behind  : Bool
  index   : Nat
  deriving DecidableEq, Repr

/-- What compositing resolves a pixel to (R356): the backdrop, or one layer's 4-bit pixel. -/
inductive Pixel where
  | backdrop
  | background (value : BitVec 4)
  | sprite (value : BitVec 4)
  deriving DecidableEq, Repr

/-- A range of the picture processor's own address space, and whether the mapper answers its reads and its writes (R72).
R375 names extended-nametable read and write hooks and not whether they can be installed separately: here each has its
own flag (DESIGN CHOICE, log entry 9). -/
structure PpuSpan where
  first  : Nat
  last   : Nat
  reads  : Bool
  writes : Bool
  deriving DecidableEq, Repr

/-- The picture processor (R340). `memory` is its own address space (R72, R349), `oam` the 64 sprite descriptors. -/
structure Ppu where
  v              : BitVec 15
  t              : BitVec 15
  fineX          : BitVec 3
  w              : Bool
  ctrl           : Byte
  mask           : Byte
  vblank         : Bool
  spriteZeroHit  : Bool
  spriteOverflow : Bool
  oamAddr        : Byte
  readBuffer     : Byte
  cycle          : Nat
  scanLine       : Nat
  nmiDelay       : Nat
  oam            : Memory
  memory         : Memory
  slots          : List PpuSpan
  ntLatch        : Byte
  atLatch        : Byte
  lowLatch       : Byte
  highLatch      : Byte
  olderTile      : BgTile
  newerTile      : BgTile
  sprites        : List Sprite
  pixel          : Pixel
  deriving DecidableEq, Repr

/-- A handler a mapper may install (R70): its own callback, the backing array, or one that does nothing. -/
inductive MapperSlot where
  | callback | direct | ignored
  deriving DecidableEq, Repr

/-- What any callback of a mapper may do, a read's and a tick's included (R303, R375). It installs no handler: that is a
side effect of writes only (R70). -/
inductive MapperAction where
  | requestIrq
  | cancelIrq
  | mirrorModeChanged (mode : Nat)
  deriving DecidableEq, Repr

/-- What a mapper's write callback may do: install handlers on the bus (R53, R70) or interceptions of the picture
processor's space (R375, log entry 7), and what any callback may do. -/
inductive MapperWriteAction where
  | configureRead (addr : Word) (slot : MapperSlot)
  | configureWrite (addr : Word) (slot : MapperSlot)
  | configureRange (first last : Word) (read write : MapperSlot)
  | configurePpuRange (first last : Nat) (reads writes : Bool)
  | signal (x : MapperAction)
  deriving DecidableEq, Repr

/-- A mapper's answer to one read: the byte, and what the callback does besides. -/
structure MapperReply where
  value   : Byte
  actions : List MapperAction
  deriving DecidableEq, Repr

/-- The cartridge's mapper, an oracle (R82, R375, `MAPPER`): the replies it will give, oldest first, to reads and writes
of cartridge space and of the picture processor's space, to the per-tick notification and to the `EnhanceTileIndex` and
`EnhanceTileAttributes` hooks; and what the console told it. -/
structure Mapper where
  loaded           : Bool
  reads            : List MapperReply
  writes           : List (List MapperWriteAction)
  chrReads         : List MapperReply
  chrWrites        : List (List MapperWriteAction)
  video            : List (List MapperAction)
  tileIndexes      : List Byte
  tileAttributes   : List Byte
  mirrorMode       : Option Nat
  tallSprites      : Bool
  accessingSprites : Bool
  deriving DecidableEq, Repr

/-- What the audio unit may do to its two IRQ sources (R370). -/
inductive ApuLine where
  | requestFrame | cancelFrame | requestDmc | cancelDmc
  deriving DecidableEq, Repr

/-- What the audio unit may do in one of its steps: drive a line, add stall units (R370), or fetch a DMC sample byte
through the bus and add `n` stall units (R371). -/
inductive AudioAction where
  | line (l : ApuLine)
  | addStall (n : Nat)
  | dmcFetch (addr : Word) (n : Nat)
  deriving DecidableEq, Repr

/-- The audio unit's answer to a read of one of its registers; it adds no stall units, which is for the unit's steps
(R316, U12). -/
structure AudioReply where
  value : Byte
  lines : List ApuLine
  deriving DecidableEq, Repr

/-- The audio unit, an oracle (R370, U12): what it will do at each of its steps, and at each read and write of its
registers, oldest first. -/
structure Audio where
  steps  : List (List AudioAction)
  reads  : List AudioReply
  writes : List (List ApuLine)
  deriving DecidableEq, Repr

/-- A controller multiplexor (R81, R365, U11), an oracle: the device's kind, the bytes its `ReadSerial()` and its
`PortValue` will return at reads, oldest first, and how many times it was strobed (log entry 8). -/
structure Controller where
  isSerial   : Bool
  serial     : List Byte
  portValues : List Byte
  strobes    : Nat
  deriving DecidableEq, Repr

end Sys2Proof.Machine
end

