-- ==== Sys2Proof/Machine/Wiring.lean ====
section
/-! DEFINITION. The console's address map as the orchestrator wires it at startup (R61, R322, R400 (3)). -/

namespace Sys2Proof.Machine

/-- The two mirrorings of the console (R61): internal RAM every `$0800` up to `$1FFF`, the picture processor's ports
every 8 bytes up to `$3FFF`. -/
def consoleMirrors : List Span :=
  [⟨0x0800, 0x1FFF, .redirect 0x0000 0x0800⟩, ⟨0x2008, 0x3FFF, .redirect 0x2000 0x0008⟩]

/-- The read handlers of R61. `$0000`-`$07FF` and `$4018`-`$FFFF` keep the default. -/
def consoleReadSlots : List Span :=
  consoleMirrors ++
    [⟨0x2000, 0x2007, .ppuPort⟩, ⟨0x4000, 0x4013, .apu⟩, ⟨0x4014, 0x4014, .oamDma⟩, ⟨0x4015, 0x4015, .apu⟩,
     ⟨0x4016, 0x4016, .controller false⟩, ⟨0x4017, 0x4017, .controller true⟩]

/-- The write handlers of R61: a write to `$4016` strobes, a write to `$4017` goes to the audio unit (R81). -/
def consoleWriteSlots : List Span :=
  consoleMirrors ++
    [⟨0x2000, 0x2007, .ppuPort⟩, ⟨0x4000, 0x4013, .apu⟩, ⟨0x4014, 0x4014, .oamDma⟩, ⟨0x4015, 0x4015, .apu⟩,
     ⟨0x4016, 0x4016, .controller false⟩, ⟨0x4017, 0x4017, .apu⟩]

/-- The handler the orchestrator installs for a mapper's handler (R67, R71). -/
def handlerOfSlot : MapperSlot → Handler
  | .callback => .mapper
  | .direct => .ram
  | .ignored => .ignored

end Sys2Proof.Machine
end

