-- ==== Sys2Proof/Machine/State.lean ====
section
/-! DEFINITION. The state of the whole console as one record, its value right after reset, and the reasons a call can
stop (INVENTORY.md `## State` lists every field with its rule). -/

namespace Sys2Proof.Machine

/-- The machine: the processor and its pending events, the bus, the picture processor, and the collaborators'
replies (R3, R6). `freeCount` is the model's own field: how many free bytes were taken (log entry 5). -/
structure State where
  cpu       : Cpu
  lines     : Lines
  bus       : Bus
  ppu       : Ppu
  mapper    : Mapper
  pad1      : Controller
  pad2      : Controller
  audio     : Audio
  freeCount : Nat
  deriving DecidableEq, Repr

/-- Why a call stops with a fault. No step of the machine raises one (R300); the host's configuration calls do. -/
inductive Fault where
  /-- R68, U15. Raised by `configureAddressMirroring` on a malformed range; safe: no state changes. -/
  | malformedMirroring
  /-- R68, R81, U15. Raised by `attachController` on a port other than 1 and 2; safe: no state changes. -/
  | controllerPortOutOfRange
  deriving DecidableEq, Repr

/-- Why the model gives no result. -/
inductive Refusal where
  /-- Raised by `exec` for an instruction without a meaning; safe. No arm raises it: every instruction has one. -/
  | notModelled (mnemonic : String)
  deriving DecidableEq, Repr

/-- What an instruction's meaning, and a step, answers. -/
abbrev Result := Host.Outcome State Fault Refusal

/-- A tile no fetch has filled yet. -/
def emptyTile : BgTile := ⟨0, 0, 0, 0, 0⟩

/-- R402: the picture processor after construction. -/
def Ppu.initial : Ppu where
  v := 0
  t := 0
  fineX := 0
  w := false
  ctrl := 0
  mask := 0
  vblank := false
  spriteZeroHit := false
  spriteOverflow := false
  oamAddr := 0
  readBuffer := 0
  cycle := 0
  scanLine := 0
  nmiDelay := 0
  oam := []
  memory := []
  slots := []
  ntLatch := 0
  atLatch := 0
  lowLatch := 0
  highLatch := 0
  olderTile := emptyTile
  newerTile := emptyTile
  sprites := []
  pixel := .backdrop

/-- No cartridge loaded (R400 (4) is the host's call). -/
def Mapper.absent : Mapper := ⟨false, [], [], [], [], [], [], [], none, false, false⟩

/-- A controller multiplexor with a serial device whose input the host has not supplied (log entry 8). -/
def Controller.initial : Controller := ⟨true, [], [], 0⟩

/-- R45, R400, R401: the machine after construction, wiring and `Reset()`, with no cartridge loaded. -/
def State.reset : State where
  cpu := ⟨Config.powerOnRegister, Config.powerOnRegister, Config.powerOnRegister, Config.resetSp, 0x0000,
    ⟨false, false, true, false, false, false⟩, 0⟩
  lines := ⟨0, false, ⟨false, false, false⟩⟩
  bus := ⟨[], consoleReadSlots, consoleWriteSlots⟩
  ppu := Ppu.initial
  mapper := Mapper.absent
  pad1 := Controller.initial
  pad2 := Controller.initial
  audio := ⟨[], [], []⟩
  freeCount := 0

end Sys2Proof.Machine
end

