-- ==== Sys2Proof/Machine/Flags.lean ====
section
/-! DEFINITION. Every flag computation of the spec: packing and unpacking the status byte (R31, R32), `SetZN` (R33),
and the results and flags of the arithmetic, compare, logic and shift instructions (R160 to R187). -/

namespace Sys2Proof.Machine

/-- R31: the byte pushed on the stack, bit 4 as given and bit 5 set. -/
def packP (b4 : Bool) (p : Flags) : Byte := byteOfBits p.n p.v true b4 p.d p.i p.z p.c

/-- R32: the flags loaded from a pulled byte; bits 4 and 5 are ignored. -/
def unpackP (v : Byte) : Flags where
  c := v.getLsbD 0
  z := v.getLsbD 1
  i := v.getLsbD 2
  d := v.getLsbD 3
  v := v.getLsbD 6
  n := v.getLsbD 7

/-- R33: `Z` and `N` from an 8-bit result. -/
def setZN (v : Byte) (p : Flags) : Flags := { p with z := v == 0, n := v.getLsbD 7 }

/-- R160: `A + M + C`, with carry out and signed overflow. -/
def adcCpu (m : Byte) (s : Cpu) : Cpu :=
  let t := s.a.toNat + m.toNat + s.p.c.toNat
  let r := BitVec.ofNat 8 t
  { s with
    a := r
    p := setZN r { s.p with
      c := decide (t > 255)
      v := s.a.getLsbD 7 == m.getLsbD 7 && r.getLsbD 7 != s.a.getLsbD 7 } }

/-- R161: `A - M - (1 - C)`, with "no borrow" and signed overflow. -/
def sbcCpu (m : Byte) (s : Cpu) : Cpu :=
  let t : Int := (s.a.toNat : Int) - m.toNat - (1 - s.p.c.toNat)
  let r := BitVec.ofInt 8 t
  { s with
    a := r
    p := setZN r { s.p with
      c := decide (0 ≤ t)
      v := s.a.getLsbD 7 != m.getLsbD 7 && r.getLsbD 7 != s.a.getLsbD 7 } }

/-- R162 to R164: the flags of comparing register value `r` with `m`. -/
def compareFlags (r m : Byte) (p : Flags) : Flags :=
  setZN (r - m) { p with c := decide (m.toNat ≤ r.toNat) }

/-- R183: `Z` from `A and M`, `N` and `V` from bits 7 and 6 of the operand. -/
def bitFlags (a m : Byte) (p : Flags) : Flags :=
  { p with z := (a &&& m) == 0, n := m.getLsbD 7, v := m.getLsbD 6 }

/-- R184: shift left, old bit 7 to `C`. -/
def aslByte (v : Byte) (p : Flags) : Byte × Flags :=
  let r := BitVec.ofNat 8 (v.toNat * 2)
  (r, setZN r { p with c := v.getLsbD 7 })

/-- R185: shift right, old bit 0 to `C`. -/
def lsrByte (v : Byte) (p : Flags) : Byte × Flags :=
  let r := BitVec.ofNat 8 (v.toNat / 2)
  (r, setZN r { p with c := v.getLsbD 0 })

/-- R186: rotate left through the carry. -/
def rolByte (v : Byte) (p : Flags) : Byte × Flags :=
  let r := BitVec.ofNat 8 ((v.toNat * 2) % 256 + p.c.toNat)
  (r, setZN r { p with c := v.getLsbD 7 })

/-- R187: rotate right through the carry. -/
def rorByte (v : Byte) (p : Flags) : Byte × Flags :=
  let r := BitVec.ofNat 8 (v.toNat / 2 + 128 * p.c.toNat)
  (r, setZN r { p with c := v.getLsbD 0 })

/-- R165: `M + 1`. -/
def incByte (v : Byte) (p : Flags) : Byte × Flags := (v + 1, setZN (v + 1) p)

/-- R168: `M - 1`. -/
def decByte (v : Byte) (p : Flags) : Byte × Flags := (v - 1, setZN (v - 1) p)

end Sys2Proof.Machine
end

