-- ==== Sys2Proof/Machine/Memory.lean ====
section
/-! DEFINITION. A byte memory: its canonical form, the read of one byte and the write of one byte (R63). -/

namespace Sys2Proof.Machine

/-- The canonical form: addresses strictly rising, and no listed byte equal to 0, what an unlisted address reads as. -/
abbrev Memory.wf (m : Memory) : Prop :=
  m.Pairwise (fun c d => c.1 < d.1) ∧ ∀ c ∈ m, c.2 ≠ 0

/-- Every listed address lies below `limit`, the size of the memory. -/
abbrev Memory.within (limit : Nat) (m : Memory) : Prop := ∀ c ∈ m, c.1 < limit

/-- The byte at address `a`; an unlisted address reads as 0 (R63, D19). -/
def Memory.read : Memory → Nat → Byte
  | [], _ => 0
  | (k, b) :: rest, a => if k = a then b else Memory.read rest a

/-- A cell in front of `rest`, unless its byte is what an unlisted address reads as. -/
def Memory.cons (a : Nat) (v : Byte) (rest : Memory) : Memory := if v = 0 then rest else (a, v) :: rest

/-- Stores byte `v` at address `a` and keeps the canonical form (R63). -/
def Memory.write : Memory → Nat → Byte → Memory
  | [], a, v => Memory.cons a v []
  | (k, b) :: rest, a, v =>
    if a < k then Memory.cons a v ((k, b) :: rest)
    else if a = k then Memory.cons a v rest
    else (k, b) :: Memory.write rest a v

end Sys2Proof.Machine
end

