-- ==== Sys2Proof/Machine/Bus.lean ====
section
/-! DEFINITION. The wiring of the bus (R62 to R71): which handler answers an address, mirroring, the host's
configuration of slots, and the replies of the collaborators behind the handlers (mapper, audio unit, controllers). -/

namespace Sys2Proof.Machine

/-- The handler installed in slot `a` (R62): that of the first span that holds `a`, else the default (R63). -/
def slotHandler : List Span → Nat → Handler
  | [], _ => .ram
  | sp :: rest, a => if sp.first ≤ a ∧ a ≤ sp.last then sp.handler else slotHandler rest a

/-- R65's `c(a) = base + ((a - base) mod segmentLength)`. -/
def canonicalAddress (base segmentLength a : Nat) : Nat := base + (a - base) % segmentLength

/-- R52, R65: follows mirror redirects to the slot that answers for `a`, with its handler. A redirect goes to a lower
address, so a fuel of `a + 1` suffices. -/
def followRedirects (slots : List Span) : Nat → Nat → Nat × Handler
  | 0, a => (a, .ram)
  | fuel + 1, a =>
    match slotHandler slots a with
    | .redirect base len => followRedirects slots fuel (canonicalAddress base len a)
    | h => (a, h)

/-- The canonical address and the handler an access to `a` reaches. -/
def targetOf (slots : List Span) (a : Word) : Nat × Handler := followRedirects slots (a.toNat + 1) a.toNat

/-- R64: `ConfigureMemoryRead`. -/
def configureMemoryRead (a : Word) (h : Handler) (s : State) : State :=
  { s with bus := { s.bus with readSlots := ⟨a.toNat, a.toNat, h⟩ :: s.bus.readSlots } }

/-- R64: `ConfigureMemoryWrite`. -/
def configureMemoryWrite (a : Word) (h : Handler) (s : State) : State :=
  { s with bus := { s.bus with writeSlots := ⟨a.toNat, a.toNat, h⟩ :: s.bus.writeSlots } }

/-- R67: `ConfigureMemoryAccessRange(first, last, read, write)`, both ends inclusive (D18). -/
def configureMemoryAccessRange (first last : Word) (read write : Handler) (s : State) : State :=
  { s with bus := { s.bus with
      readSlots := ⟨first.toNat, last.toNat, read⟩ :: s.bus.readSlots
      writeSlots := ⟨first.toNat, last.toNat, write⟩ :: s.bus.writeSlots } }

/-- R41, R303: adds source `k` to the set. -/
def IrqSources.request (k : IrqSource) (q : IrqSources) : IrqSources :=
  match k with
  | .apuFrame => { q with apuFrame := true }
  | .apuDmc => { q with apuDmc := true }
  | .mapper => { q with mapper := true }

/-- R41, R303: removes source `k` from the set. -/
def IrqSources.cancel (k : IrqSource) (q : IrqSources) : IrqSources :=
  match k with
  | .apuFrame => { q with apuFrame := false }
  | .apuDmc => { q with apuDmc := false }
  | .mapper => { q with mapper := false }

/-- R41: the IRQ input is asserted exactly when the set is not empty. -/
def IrqSources.asserted (q : IrqSources) : Bool := q.apuFrame || q.apuDmc || q.mapper

/-- R303: `TriggerInterruptRequest(k)`. -/
def requestIrq (k : IrqSource) (s : State) : State :=
  { s with lines := { s.lines with irq := s.lines.irq.request k } }

/-- R303: `CancelInterruptRequest(k)`. -/
def cancelIrq (k : IrqSource) (s : State) : State :=
  { s with lines := { s.lines with irq := s.lines.irq.cancel k } }

/-- R40, R302: `TriggerNonMaskableInterrupt()`. -/
def triggerNmi (s : State) : State := { s with lines := { s.lines with nmiPending := true } }

/-- R39: `AddStall(n)`. -/
def addStall (n : Nat) (s : State) : State := { s with lines := { s.lines with stall := s.lines.stall + n } }

/-- A byte the spec leaves open ("any value", U9 to U13): the next free byte. -/
def takeFreeByte (s : State) : Byte × State := (Config.freeByte s.freeCount, { s with freeCount := s.freeCount + 1 })

/-- One thing any callback of a mapper does (R303, R375). -/
def applyMapperAction (s : State) : MapperAction → State
  | .requestIrq => requestIrq .mapper s
  | .cancelIrq => cancelIrq .mapper s
  | .mirrorModeChanged mode => { s with mapper := { s.mapper with mirrorMode := some mode } }

/-- One thing a mapper's write callback does (R70). -/
def applyMapperWriteAction (s : State) : MapperWriteAction → State
  | .configureRead a slot => configureMemoryRead a (handlerOfSlot slot) s
  | .configureWrite a slot => configureMemoryWrite a (handlerOfSlot slot) s
  | .configureRange first last r w =>
    configureMemoryAccessRange first last (handlerOfSlot r) (handlerOfSlot w) s
  | .configurePpuRange first last reads writes =>
    { s with ppu := { s.ppu with slots := ⟨first, last, reads, writes⟩ :: s.ppu.slots } }
  | .signal x => applyMapperAction s x

/-- What a mapper's callback does, in order. -/
def applyMapperActions (actions : List MapperAction) (s : State) : State := actions.foldl applyMapperAction s

/-- What a mapper's write callback does, in order; the new wiring is in force for the very next access (R70). -/
def applyMapperWriteActions (actions : List MapperWriteAction) (s : State) : State :=
  actions.foldl applyMapperWriteAction s

/-- R67, R375: the mapper's read function for the processor's space. -/
def mapperRead (s : State) : Byte × State :=
  match s.mapper.reads with
  | [] => takeFreeByte s
  | r :: rest => (r.value, applyMapperActions r.actions { s with mapper := { s.mapper with reads := rest } })

/-- R67, R375: the mapper's write function for the processor's space. -/
def mapperWrite (s : State) : State :=
  match s.mapper.writes with
  | [] => s
  | acts :: rest => applyMapperWriteActions acts { s with mapper := { s.mapper with writes := rest } }

/-- R375: the mapper's "CHR-space get". -/
def mapperChrRead (s : State) : Byte × State :=
  match s.mapper.chrReads with
  | [] => takeFreeByte s
  | r :: rest => (r.value, applyMapperActions r.actions { s with mapper := { s.mapper with chrReads := rest } })

/-- R375: the mapper's "CHR-space set". -/
def mapperChrWrite (s : State) : State :=
  match s.mapper.chrWrites with
  | [] => s
  | acts :: rest => applyMapperWriteActions acts { s with mapper := { s.mapper with chrWrites := rest } }

/-- R341, R375: `StepVideo`, the mapper's notification at every tick, when a cartridge is loaded. -/
def mapperVideo (s : State) : State :=
  match s.mapper.loaded, s.mapper.video with
  | true, acts :: rest => applyMapperActions acts { s with mapper := { s.mapper with video := rest } }
  | _, _ => s

/-- R375: the mapper's `EnhanceTileIndex` hook, the tile index it answers for a fetched one; without an answer the index
stays (log entry 13). -/
def enhanceTileIndex (tile : Byte) (s : State) : Byte × State :=
  match s.mapper.tileIndexes with
  | [] => (tile, s)
  | b :: rest => (b, { s with mapper := { s.mapper with tileIndexes := rest } })

/-- R375: the mapper's `EnhanceTileAttributes` hook, likewise. -/
def enhanceTileAttributes (attribs : Byte) (s : State) : Byte × State :=
  match s.mapper.tileAttributes with
  | [] => (attribs, s)
  | b :: rest => (b, { s with mapper := { s.mapper with tileAttributes := rest } })

/-- One thing the audio unit does to its IRQ sources (R370). -/
def applyApuLine (s : State) : ApuLine → State
  | .requestFrame => requestIrq .apuFrame s
  | .cancelFrame => cancelIrq .apuFrame s
  | .requestDmc => requestIrq .apuDmc s
  | .cancelDmc => cancelIrq .apuDmc s

/-- R61, R370: a read of an audio register. It drives IRQ sources at most: no read adds stall units (R316). -/
def audioRead (s : State) : Byte × State :=
  match s.audio.reads with
  | [] => takeFreeByte s
  | r :: rest => (r.value, r.lines.foldl applyApuLine { s with audio := { s.audio with reads := rest } })

/-- R61, R370: a write to an audio register. It drives IRQ sources at most; a DMC fetch it starts comes at a step of the
unit (R316, U12). -/
def audioWrite (s : State) : State :=
  match s.audio.writes with
  | [] => s
  | ls :: rest => ls.foldl applyApuLine { s with audio := { s.audio with writes := rest } }

/-- R81, R365: the byte a controller port returns, and the device afterwards: the next of its serial bytes, or of the
bytes its `PortValue` will show. `none` where the host has supplied none: then the read gives any byte (U11). -/
def Controller.next (c : Controller) : Option (Byte × Controller) :=
  if c.isSerial then
    match c.serial with
    | [] => none
    | b :: rest => some (b, { c with serial := rest })
  else
    match c.portValues with
    | [] => none
    | b :: rest => some (b, { c with portValues := rest })

/-- R81: a read of `$4016` (multiplexor 1) or `$4017` (multiplexor 2). -/
def controllerRead (second : Bool) (s : State) : Byte × State :=
  match (if second then s.pad2 else s.pad1).next with
  | none => takeFreeByte s
  | some (b, c) => (b, if second then { s with pad2 := c } else { s with pad1 := c })

/-- R81: a write to `$4016` calls `Strobe()` on the attached controllers. -/
def strobeControllers (s : State) : State :=
  { s with
    pad1 := { s.pad1 with strobes := s.pad1.strobes + 1 }
    pad2 := { s.pad2 with strobes := s.pad2.strobes + 1 } }

end Sys2Proof.Machine
end

