-- ==== Sys2Proof/Machine/Ppu.lean ====
section
/-! DEFINITION. The picture processor as the processor sees it: its own address space (R72), the control, mask and
status bits (R346), the NMI condition (R344), and the eight ports `$2000` to `$2007` (R345 to R350). -/

namespace Sys2Proof.Machine

/-- R346: "Rendering-enabled" means mask bit 3 or mask bit 4 is 1. -/
def Ppu.rendering (p : Ppu) : Bool := p.mask.getLsbD 3 || p.mask.getLsbD 4

/-- R344: `nmi_out`, NMI enabled and VBlank set. -/
def Ppu.nmiOut (p : Ppu) : Bool := p.ctrl.getLsbD 7 && p.vblank

/-- R344: the delay counter is loaded when `nmi_out` changes from false to true. -/
def armNmi (before after : Ppu) : Ppu :=
  if !before.nmiOut && after.nmiOut then { after with nmiDelay := Config.nmiDelay } else after

/-- R353: the height of a sprite, by control bit 5. -/
def Ppu.spriteHeight (p : Ppu) : Nat := if p.ctrl.getLsbD 5 then 16 else 8

/-- R346: what a data-port access adds to `v`, by control bit 2. -/
def Ppu.increment (p : Ppu) : BitVec 15 := if p.ctrl.getLsbD 2 then 32 else 1

/-- Whether the mapper intercepts an access (`PpuSpan.reads` or `PpuSpan.writes`) to address `a` of the picture
processor's space (R72). -/
def ppuMapped (access : PpuSpan → Bool) : List PpuSpan → Nat → Bool
  | [], _ => false
  | sp :: rest, a => if sp.first ≤ a ∧ a ≤ sp.last then access sp else ppuMapped access rest a

/-- R72: the cell of the picture processor's memory behind address `a`, below `0x4000`. In the nametable range, whose
bounds are PRESUMED (log entry 9), it depends on the mirroring mode the mapper announced last. -/
def vramCell (s : State) (a : Nat) : Nat :=
  if 0x2000 ≤ a ∧ a < 0x3F00 then
    0x2000 + (Config.nametableCell s.mapper.mirrorMode (BitVec.ofNat 13 (a - 0x2000))).toNat
  else a

/-- A read of the picture processor's space at `a mod 0x4000` (R72, R349). -/
def ppuRead (a : Nat) (s : State) : Byte × State :=
  if ppuMapped PpuSpan.reads s.ppu.slots (a % 0x4000) then mapperChrRead s
  else (s.ppu.memory.read (vramCell s (a % 0x4000)), s)

/-- A write to the picture processor's space at `a mod 0x4000` (R72, R349). -/
def ppuWrite (a : Nat) (b : Byte) (s : State) : State :=
  if ppuMapped PpuSpan.writes s.ppu.slots (a % 0x4000) then mapperChrWrite s
  else { s with ppu := { s.ppu with memory := s.ppu.memory.write (vramCell s (a % 0x4000)) b } }

/-- R349: `v` after a data-port access. -/
def advanceV (s : State) : State := { s with ppu := { s.ppu with v := s.ppu.v + s.ppu.increment } }

/-- R346: the status byte, its undriven low bits being those of `open_`. -/
def statusByte (p : Ppu) (open_ : Byte) : Byte :=
  byteOfBits p.vblank p.spriteZeroHit p.spriteOverflow (open_.getLsbD 4) (open_.getLsbD 3) (open_.getLsbD 2)
    (open_.getLsbD 1) (open_.getLsbD 0)

/-- R348: a read of `$2002` clears the VBlank flag and the write toggle. -/
def readStatus (s : State) : Byte × State :=
  let r := takeFreeByte s
  (statusByte s.ppu r.1, { r.2 with ppu := { r.2.ppu with vblank := false, w := false } })

/-- R349: a read of `$2007`, buffered below the palette and immediate in it. -/
def readData (s : State) : Byte × State :=
  let a := s.ppu.v.toNat % 0x4000
  if a < 0x3F00 then
    let r := ppuRead a s
    (s.ppu.readBuffer, advanceV { r.2 with ppu := { r.2.ppu with readBuffer := r.1 } })
  else
    let r := ppuRead a s
    let under := ppuRead (a - 0x1000) r.2
    (r.1, advanceV { under.2 with ppu := { under.2.ppu with readBuffer := under.1 } })

/-- R345: a read of port `n`; a write-only port returns any byte (U9). -/
def readPort (n : Nat) (s : State) : Byte × State :=
  match n with
  | 2 => readStatus s
  | 4 => (s.ppu.oam.read s.ppu.oamAddr.toNat, s)
  | 7 => readData s
  | _ => takeFreeByte s

/-- R345, R350, R344: a write to `$2000`. The sprite size is forwarded to the mapper (R346). -/
def writeControl (d : Byte) (s : State) : State :=
  { s with
    ppu := armNmi s.ppu { s.ppu with ctrl := d, t := setField 10 2 d.toNat s.ppu.t }
    mapper := { s.mapper with tallSprites := d.getLsbD 5 } }

/-- R350: a write to `$2005`. -/
def writeScroll (d : Byte) (p : Ppu) : Ppu :=
  if p.w then { p with t := setField 5 5 (d.toNat / 8) (setField 12 3 d.toNat p.t), w := false }
  else { p with t := setField 0 5 (d.toNat / 8) p.t, fineX := d.setWidth 3, w := true }

/-- R350: a write to `$2006`. -/
def writeAddress (d : Byte) (p : Ppu) : Ppu :=
  if p.w then
    let t := setField 0 8 d.toNat p.t
    { p with t := t, v := t, w := false }
  else { p with t := setField 14 1 0 (setField 8 6 d.toNat p.t), w := true }

/-- R345: a write to port `n`; a write to the status port has no effect (U26). -/
def writePort (n : Nat) (d : Byte) (s : State) : State :=
  match n with
  | 0 => writeControl d s
  | 1 => { s with ppu := { s.ppu with mask := d } }
  | 3 => { s with ppu := { s.ppu with oamAddr := d } }
  | 4 => { s with ppu := { s.ppu with
      oam := s.ppu.oam.write s.ppu.oamAddr.toNat d, oamAddr := s.ppu.oamAddr + 1 } }
  | 5 => { s with ppu := writeScroll d s.ppu }
  | 6 => { s with ppu := writeAddress d s.ppu }
  | 7 => advanceV (ppuWrite (s.ppu.v.toNat % 0x4000) d s)
  | _ => s

end Sys2Proof.Machine
end

