-- ==== Sys2Proof/Machine/Ops.lean ====
section
/-! DEFINITION. The operations every meaning is written in: one bus access (R52, R53) with the OAM DMA behind `$4014`
(R79), 16-bit reads (R54, R55), the stack (R24, R25), entering a vector and returning from it (R307, R212, R213), and
`Reset()` (R401). -/

namespace Sys2Proof.Machine

/-- What the read handler `h` of slot `a` does (R52, R61). A redirect has been followed before. -/
def readThrough (h : Handler) (a : Nat) (s : State) : Byte × State :=
  match h with
  | .ram => (s.bus.backing.read a, s)
  | .redirect _ _ => (s.bus.backing.read a, s)
  | .ppuPort => readPort (a % 8) s
  | .oamDma => takeFreeByte s
  | .apu => audioRead s
  | .controller second => controllerRead second s
  | .mapper => mapperRead s
  | .ignored => takeFreeByte s

/-- R52: `MemRead(a)`, one bus read. -/
def memRead (a : Word) (s : State) : Byte × State :=
  readThrough (targetOf s.bus.readSlots a).2 (targetOf s.bus.readSlots a).1 s

/-- R79: byte `i` of an OAM DMA from page `v`, to the OAM address `start + i` modulo 256. That a byte is stored in the
OAM before the next one is read is not in the spec (DESIGN CHOICE, log entry 31). -/
def oamDmaByte (v : Byte) (start : Nat) (s : State) (i : Nat) : State :=
  let r := memRead (wordOfBytes (BitVec.ofNat 8 i) v) s
  { r.2 with ppu := { r.2.ppu with oam := r.2.ppu.oam.write ((start + i) % 256) r.1 } }

/-- R79: a write of `v` to `$4014` copies 256 bytes to the OAM, then adds 513 stall units, or 514 when the cycle
counter is odd. -/
def oamDma (v : Byte) (s : State) : State :=
  addStall (Config.oamDmaStall + s.cpu.cycles % 2)
    ((List.range 256).foldl (oamDmaByte v s.ppu.oamAddr.toNat) s)

/-- What the write handler `h` of slot `a` does (R53, R61). A redirect has been followed before. -/
def writeThrough (h : Handler) (a : Nat) (v : Byte) (s : State) : State :=
  match h with
  | .ram => { s with bus := { s.bus with backing := s.bus.backing.write a v } }
  | .redirect _ _ => { s with bus := { s.bus with backing := s.bus.backing.write a v } }
  | .ppuPort => writePort (a % 8) v s
  | .oamDma => oamDma v s
  | .apu => audioWrite s
  | .controller _ => strobeControllers s
  | .mapper => mapperWrite s
  | .ignored => s

/-- R53: `MemWrite(a, v)`, one bus write. -/
def memWrite (a : Word) (v : Byte) (s : State) : State :=
  writeThrough (targetOf s.bus.writeSlots a).2 (targetOf s.bus.writeSlots a).1 v s

/-- The backing-array address a write to `a` stores to, if its handler stores there (R53, R63). -/
def storedAt (a : Word) (s : State) : Option Nat :=
  match (targetOf s.bus.writeSlots a).2 with
  | .ram => some (targetOf s.bus.writeSlots a).1
  | .redirect _ _ => some (targetOf s.bus.writeSlots a).1
  | .ppuPort => none
  | .oamDma => none
  | .apu => none
  | .controller _ => none
  | .mapper => none
  | .ignored => none

/-- R54: `Read16(a)`, low byte first. -/
def read16 (a : Word) (s : State) : Word × State :=
  let lo := memRead a s
  let hi := memRead (a + 1) lo.2
  (wordOfBytes lo.1 hi.1, hi.2)

/-- R55: `Read16Page(a)`, the second byte from the page of the first. -/
def read16Page (a : Word) (s : State) : Word × State :=
  let lo := memRead a s
  let hi := memRead (nextInPage a) lo.2
  (wordOfBytes lo.1 hi.1, hi.2)

/-- R23: the address the stack pointer designates. -/
def stackAddress (sp : Byte) : Word := Config.stackPage + zext16 sp

/-- R24: `Push(v)`. -/
def push (v : Byte) (s : State) : State :=
  let s1 := memWrite (stackAddress s.cpu.sp) v s
  { s1 with cpu := { s1.cpu with sp := s1.cpu.sp - 1 } }

/-- R24: `Push16(w)`, high byte first. -/
def push16 (w : Word) (s : State) : State := push (loByte w) (push (hiByte w) s)

/-- R25: `Pull()`. -/
def pull (s : State) : Byte × State :=
  memRead (stackAddress (s.cpu.sp + 1)) { s with cpu := { s.cpu with sp := s.cpu.sp + 1 } }

/-- R25: `Pull16()`, low byte first. -/
def pull16 (s : State) : Word × State :=
  let lo := pull s
  let hi := pull lo.2
  (wordOfBytes lo.1 hi.1, hi.2)

/-- TAKING AN EXCEPTION (R301, R307, R212): saves `PC` and the status byte with bit 4 as given on the stack, sets `I`,
and goes to the address in `vector`. `BRK`, NMI and IRQ differ in what they give it. -/
def enterVector (vector : Word) (b4 : Bool) (s : State) : State :=
  let s1 := push (packP b4 s.cpu.p) (push16 s.cpu.pc s)
  let r := read16 vector { s1 with cpu := { s1.cpu with p := { s1.cpu.p with i := true } } }
  { r.2 with cpu := { r.2.cpu with pc := r.1 } }

/-- R307: `InterruptEntry(vector)`, for NMI and IRQ. -/
def interruptEntry (vector : Word) (s : State) : State :=
  let s1 := enterVector vector false s
  { s1 with cpu := { s1.cpu with cycles := s1.cpu.cycles + Config.interruptCycles } }

/-- RETURN FROM AN EXCEPTION (R213, R309): pulls the status byte, then `PC`. -/
def returnFromInterrupt (s : State) : State :=
  let st := pull s
  let r := pull16 { st.2 with cpu := { st.2.cpu with p := unpackP st.1 } }
  { r.2 with cpu := { r.2.cpu with pc := r.1 } }

/-- R401: `Reset()` on a running machine. -/
def resetProcessor (s : State) : State :=
  let r := read16 Config.resetVector s
  { r.2 with
    cpu := { r.2.cpu with
      pc := r.1, sp := Config.resetSp, p := ⟨false, false, true, false, false, false⟩, cycles := 0 }
    lines := { r.2.lines with stall := 0, nmiPending := false } }

end Sys2Proof.Machine
end

