-- ==== Sys2Proof/Machine/Operands.lean ====
section
/-! DEFINITION. Every operand form: the effective address of each addressing mode (R92 to R104), the order of events in
one instruction (R110), and the operand's value. -/

namespace Sys2Proof.Machine

/-- The effective address, and whether a page was crossed (R111, R112). -/
structure Resolved where
  ea      : Word
  crossed : Bool
  deriving DecidableEq, Repr

/-- An indexed address and its page crossing (R99, R100, R103). -/
def indexed (base : Word) (index : Byte) : Resolved :=
  ⟨base + zext16 index, pagesDiffer base (base + zext16 index)⟩

/-- R110 step (3): the effective address of an operand of the instruction at `PC`, reading the pointer bytes of an
indirect mode (R59 (3)). For the modes without one it is a value nothing uses. -/
def resolve (o : Operand) (s : State) : Resolved × State :=
  match o with
  | .implied => (⟨s.cpu.pc, false⟩, s)
  | .accumulator => (⟨s.cpu.pc, false⟩, s)
  | .immediate _ => (⟨s.cpu.pc + 1, false⟩, s)
  | .zeroPage z => (⟨zext16 z, false⟩, s)
  | .zeroPageX z => (⟨zext16 (z + s.cpu.x), false⟩, s)
  | .zeroPageY z => (⟨zext16 (z + s.cpu.y), false⟩, s)
  | .absolute a => (⟨a, false⟩, s)
  | .absoluteX a => (indexed a s.cpu.x, s)
  | .absoluteY a => (indexed a s.cpu.y, s)
  | .indirect p => let r := read16Page p s; (⟨r.1, false⟩, r.2)
  | .indexedIndirect z => let r := read16Page (zext16 (z + s.cpu.x)) s; (⟨r.1, false⟩, r.2)
  | .indirectIndexed z => let r := read16Page (zext16 z) s; (indexed r.1 s.cpu.y, r.2)
  | .relative off => (⟨s.cpu.pc + 2 + sext16 off, false⟩, s)

/-- R110 steps (4) and (5): `PC` past the whole instruction, base cycles and page penalty accounted. -/
def accountFor (t : Timing) (crossed : Bool) (c : Cpu) : Cpu :=
  { c with
    pc := c.pc + BitVec.ofNat 16 t.size
    cycles := c.cycles + t.cycles + (if t.penalty && crossed then 1 else 0) }

/-- R110 steps (3) to (5): the effective address, and the state in which the operation runs. -/
def prepare (o : Operand) (t : Timing) (s : State) : Word × State :=
  let r := resolve o s
  (r.1.ea, { r.2 with cpu := accountFor t r.1.crossed r.2.cpu })

/-- The operand's value: byte 1 itself (R94), the accumulator (R93), or one read at `EA` (R59 (4)). -/
def readOperand (o : Operand) (ea : Word) (s : State) : Byte × State :=
  match o with
  | .immediate v => (v, s)
  | .accumulator => (s.cpu.a, s)
  | _ => memRead ea s

/-- The shape of an instruction that reads its operand `M` and changes registers and flags by `f M`. -/
def readOp (f : Byte → Cpu → Cpu) (o : Operand) (t : Timing) (s : State) : State :=
  let p := prepare o t s
  let m := readOperand o p.1 p.2
  { m.2 with cpu := f m.1 m.2.cpu }

/-- The shape of a store: one write of the register `reg` at `EA`, no read there (R59 (5)). -/
def storeOp (reg : Cpu → Byte) (o : Operand) (t : Timing) (s : State) : State :=
  let p := prepare o t s
  memWrite p.1 (reg p.2.cpu) p.2

/-- The shape of a read-modify-write instruction: one read, one write of the result (R77); `f` gives the result and
the flags. The accumulator form acts on `A`. -/
def modifyOp (f : Byte → Flags → Byte × Flags) (o : Operand) (t : Timing) (s : State) : State :=
  let p := prepare o t s
  let m := readOperand o p.1 p.2
  let r := f m.1 m.2.cpu.p
  match o with
  | .accumulator => { m.2 with cpu := { m.2.cpu with a := r.1, p := r.2 } }
  | _ =>
    let s1 := memWrite p.1 r.1 m.2
    { s1 with cpu := { s1.cpu with p := r.2 } }

/-- The shape of an implied instruction that only changes registers and flags. -/
def registerOp (f : Cpu → Cpu) (t : Timing) (s : State) : State :=
  let p := prepare .implied t s
  { p.2 with cpu := f p.2.cpu }

end Sys2Proof.Machine
end

