-- ==== Sys2Proof/Machine/Arithmetic.lean ====
section
/-! DEFINITION. Arithmetic, compare, increment and decrement (`42_arithmetic.md`, R160 to R171). An instruction's operation is written once over its operand; each
opcode then has a meaning of its own: that operation on its addressing mode, with its size, cycles and page penalty. -/

namespace Sys2Proof.Machine

/-- R160, `ADC`: add with carry. -/
def opAdc (o : Operand) (t : Timing) (s : State) : State :=
  readOp adcCpu o t s

/-- `$61`, IndexedIndirect. -/
def execAdcIndX (z : Byte) (s : State) : Result := .next (opAdc (.indexedIndirect z) ⟨2, 6, false⟩ s)

/-- `$65`, ZeroPage. -/
def execAdcZp (z : Byte) (s : State) : Result := .next (opAdc (.zeroPage z) ⟨2, 3, false⟩ s)

/-- `$69`, Immediate. -/
def execAdcImm (v : Byte) (s : State) : Result := .next (opAdc (.immediate v) ⟨2, 2, false⟩ s)

/-- `$6D`, Absolute. -/
def execAdcAbs (a : Word) (s : State) : Result := .next (opAdc (.absolute a) ⟨3, 4, false⟩ s)

/-- `$71`, IndirectIndexed. -/
def execAdcIndY (z : Byte) (s : State) : Result := .next (opAdc (.indirectIndexed z) ⟨2, 5, true⟩ s)

/-- `$75`, ZeroPageX. -/
def execAdcZpX (z : Byte) (s : State) : Result := .next (opAdc (.zeroPageX z) ⟨2, 4, false⟩ s)

/-- `$79`, AbsoluteY. -/
def execAdcAbsY (a : Word) (s : State) : Result := .next (opAdc (.absoluteY a) ⟨3, 4, true⟩ s)

/-- `$7D`, AbsoluteX. -/
def execAdcAbsX (a : Word) (s : State) : Result := .next (opAdc (.absoluteX a) ⟨3, 4, true⟩ s)

/-- R161, `SBC`: subtract with borrow. -/
def opSbc (o : Operand) (t : Timing) (s : State) : State :=
  readOp sbcCpu o t s

/-- `$E1`, IndexedIndirect. -/
def execSbcIndX (z : Byte) (s : State) : Result := .next (opSbc (.indexedIndirect z) ⟨2, 6, false⟩ s)

/-- `$E5`, ZeroPage. -/
def execSbcZp (z : Byte) (s : State) : Result := .next (opSbc (.zeroPage z) ⟨2, 3, false⟩ s)

/-- `$E9`, Immediate. -/
def execSbcImm (v : Byte) (s : State) : Result := .next (opSbc (.immediate v) ⟨2, 2, false⟩ s)

/-- `$ED`, Absolute. -/
def execSbcAbs (a : Word) (s : State) : Result := .next (opSbc (.absolute a) ⟨3, 4, false⟩ s)

/-- `$F1`, IndirectIndexed. -/
def execSbcIndY (z : Byte) (s : State) : Result := .next (opSbc (.indirectIndexed z) ⟨2, 5, true⟩ s)

/-- `$F5`, ZeroPageX. -/
def execSbcZpX (z : Byte) (s : State) : Result := .next (opSbc (.zeroPageX z) ⟨2, 4, false⟩ s)

/-- `$F9`, AbsoluteY. -/
def execSbcAbsY (a : Word) (s : State) : Result := .next (opSbc (.absoluteY a) ⟨3, 4, true⟩ s)

/-- `$FD`, AbsoluteX. -/
def execSbcAbsX (a : Word) (s : State) : Result := .next (opSbc (.absoluteX a) ⟨3, 4, true⟩ s)

/-- R162, `CMP`: compare `A`. -/
def opCmp (o : Operand) (t : Timing) (s : State) : State :=
  readOp (fun m c => { c with p := compareFlags c.a m c.p }) o t s

/-- `$C1`, IndexedIndirect. -/
def execCmpIndX (z : Byte) (s : State) : Result := .next (opCmp (.indexedIndirect z) ⟨2, 6, false⟩ s)

/-- `$C5`, ZeroPage. -/
def execCmpZp (z : Byte) (s : State) : Result := .next (opCmp (.zeroPage z) ⟨2, 3, false⟩ s)

/-- `$C9`, Immediate. -/
def execCmpImm (v : Byte) (s : State) : Result := .next (opCmp (.immediate v) ⟨2, 2, false⟩ s)

/-- `$CD`, Absolute. -/
def execCmpAbs (a : Word) (s : State) : Result := .next (opCmp (.absolute a) ⟨3, 4, false⟩ s)

/-- `$D1`, IndirectIndexed. -/
def execCmpIndY (z : Byte) (s : State) : Result := .next (opCmp (.indirectIndexed z) ⟨2, 5, true⟩ s)

/-- `$D5`, ZeroPageX. -/
def execCmpZpX (z : Byte) (s : State) : Result := .next (opCmp (.zeroPageX z) ⟨2, 4, false⟩ s)

/-- `$D9`, AbsoluteY. -/
def execCmpAbsY (a : Word) (s : State) : Result := .next (opCmp (.absoluteY a) ⟨3, 4, true⟩ s)

/-- `$DD`, AbsoluteX. -/
def execCmpAbsX (a : Word) (s : State) : Result := .next (opCmp (.absoluteX a) ⟨3, 4, true⟩ s)

/-- R163, `CPX`: compare `X`. -/
def opCpx (o : Operand) (t : Timing) (s : State) : State :=
  readOp (fun m c => { c with p := compareFlags c.x m c.p }) o t s

/-- `$E0`, Immediate. -/
def execCpxImm (v : Byte) (s : State) : Result := .next (opCpx (.immediate v) ⟨2, 2, false⟩ s)

/-- `$E4`, ZeroPage. -/
def execCpxZp (z : Byte) (s : State) : Result := .next (opCpx (.zeroPage z) ⟨2, 3, false⟩ s)

/-- `$EC`, Absolute. -/
def execCpxAbs (a : Word) (s : State) : Result := .next (opCpx (.absolute a) ⟨3, 4, false⟩ s)

/-- R164, `CPY`: compare `Y`. -/
def opCpy (o : Operand) (t : Timing) (s : State) : State :=
  readOp (fun m c => { c with p := compareFlags c.y m c.p }) o t s

/-- `$C0`, Immediate. -/
def execCpyImm (v : Byte) (s : State) : Result := .next (opCpy (.immediate v) ⟨2, 2, false⟩ s)

/-- `$C4`, ZeroPage. -/
def execCpyZp (z : Byte) (s : State) : Result := .next (opCpy (.zeroPage z) ⟨2, 3, false⟩ s)

/-- `$CC`, Absolute. -/
def execCpyAbs (a : Word) (s : State) : Result := .next (opCpy (.absolute a) ⟨3, 4, false⟩ s)

/-- R165, `INC`: increment memory. -/
def opInc (o : Operand) (t : Timing) (s : State) : State :=
  modifyOp incByte o t s

/-- `$E6`, ZeroPage. -/
def execIncZp (z : Byte) (s : State) : Result := .next (opInc (.zeroPage z) ⟨2, 5, false⟩ s)

/-- `$EE`, Absolute. -/
def execIncAbs (a : Word) (s : State) : Result := .next (opInc (.absolute a) ⟨3, 6, false⟩ s)

/-- `$F6`, ZeroPageX. -/
def execIncZpX (z : Byte) (s : State) : Result := .next (opInc (.zeroPageX z) ⟨2, 6, false⟩ s)

/-- `$FE`, AbsoluteX. -/
def execIncAbsX (a : Word) (s : State) : Result := .next (opInc (.absoluteX a) ⟨3, 7, false⟩ s)

/-- R166, `INX`: `X + 1`. -/
def opInx (t : Timing) (s : State) : State :=
  registerOp (fun c => { c with x := c.x + 1, p := setZN (c.x + 1) c.p }) t s

/-- `$E8`, Implied. -/
def execInx (s : State) : Result := .next (opInx ⟨1, 2, false⟩ s)

/-- R167, `INY`: `Y + 1`. -/
def opIny (t : Timing) (s : State) : State :=
  registerOp (fun c => { c with y := c.y + 1, p := setZN (c.y + 1) c.p }) t s

/-- `$C8`, Implied. -/
def execIny (s : State) : Result := .next (opIny ⟨1, 2, false⟩ s)

/-- R168, `DEC`: decrement memory. -/
def opDec (o : Operand) (t : Timing) (s : State) : State :=
  modifyOp decByte o t s

/-- `$C6`, ZeroPage. -/
def execDecZp (z : Byte) (s : State) : Result := .next (opDec (.zeroPage z) ⟨2, 5, false⟩ s)

/-- `$CE`, Absolute. -/
def execDecAbs (a : Word) (s : State) : Result := .next (opDec (.absolute a) ⟨3, 6, false⟩ s)

/-- `$D6`, ZeroPageX. -/
def execDecZpX (z : Byte) (s : State) : Result := .next (opDec (.zeroPageX z) ⟨2, 6, false⟩ s)

/-- `$DE`, AbsoluteX. -/
def execDecAbsX (a : Word) (s : State) : Result := .next (opDec (.absoluteX a) ⟨3, 7, false⟩ s)

/-- R169, `DEX`: `X - 1`. -/
def opDex (t : Timing) (s : State) : State :=
  registerOp (fun c => { c with x := c.x - 1, p := setZN (c.x - 1) c.p }) t s

/-- `$CA`, Implied. -/
def execDex (s : State) : Result := .next (opDex ⟨1, 2, false⟩ s)

/-- R170, `DEY`: `Y - 1`. -/
def opDey (t : Timing) (s : State) : State :=
  registerOp (fun c => { c with y := c.y - 1, p := setZN (c.y - 1) c.p }) t s

/-- `$88`, Implied. -/
def execDey (s : State) : Result := .next (opDey ⟨1, 2, false⟩ s)

end Sys2Proof.Machine
end

