-- ==== Sys2Proof/Machine/Control.lean ====
section
/-! DEFINITION. Jumps, subroutines, branches, `BRK` and `RTI` (`44_control.md`, R200 to R214). An instruction's operation is written once over its operand; each
opcode then has a meaning of its own: that operation on its addressing mode, with its size, cycles and page penalty. -/

namespace Sys2Proof.Machine

/-- R203: the common branch rule, with `EA` from the offset (R104). A taken branch costs 1 more cycle, and 1 more again
when the target is in another page than the next instruction. -/
def branchIf (cond : Flags → Bool) (o : Operand) (t : Timing) (s : State) : State :=
  let p := prepare o t s
  if cond p.2.cpu.p then
    { p.2 with cpu := { p.2.cpu with
        pc := p.1
        cycles := p.2.cpu.cycles + 1 + (if pagesDiffer p.2.cpu.pc p.1 then 1 else 0) } }
  else p.2

/-- R200, `JMP`: `PC <- EA`. -/
def opJmp (o : Operand) (t : Timing) (s : State) : State :=
  let p := prepare o t s
  { p.2 with cpu := { p.2.cpu with pc := p.1 } }

/-- `$4C`, Absolute. -/
def execJmpAbs (a : Word) (s : State) : Result := .next (opJmp (.absolute a) ⟨3, 3, false⟩ s)

/-- `$6C`, Indirect. -/
def execJmpInd (p : Word) (s : State) : Result := .next (opJmp (.indirect p) ⟨3, 5, false⟩ s)

/-- R201, `JSR`: pushes the address of its last byte, `PC <- EA`. -/
def opJsr (o : Operand) (t : Timing) (s : State) : State :=
  let p := prepare o t s
  let s1 := push16 (p.2.cpu.pc - 1) p.2
  { s1 with cpu := { s1.cpu with pc := p.1 } }

/-- `$20`, Absolute. -/
def execJsrAbs (a : Word) (s : State) : Result := .next (opJsr (.absolute a) ⟨3, 6, false⟩ s)

/-- R202, `RTS`: `PC <- Pull16() + 1`. -/
def opRts (t : Timing) (s : State) : State :=
  let r := pull16 (prepare .implied t s).2
  { r.2 with cpu := { r.2.cpu with pc := r.1 + 1 } }

/-- `$60`, Implied. -/
def execRts (s : State) : Result := .next (opRts ⟨1, 6, false⟩ s)

/-- R204, `BCC`: taken if `P.C == 0`. -/
def opBcc (o : Operand) (t : Timing) (s : State) : State :=
  branchIf (fun p => !p.c) o t s

/-- `$90`, Relative. -/
def execBcc (off : Byte) (s : State) : Result := .next (opBcc (.relative off) ⟨2, 2, false⟩ s)

/-- R205, `BCS`: taken if `P.C == 1`. -/
def opBcs (o : Operand) (t : Timing) (s : State) : State :=
  branchIf (fun p => p.c) o t s

/-- `$B0`, Relative. -/
def execBcs (off : Byte) (s : State) : Result := .next (opBcs (.relative off) ⟨2, 2, false⟩ s)

/-- R206, `BEQ`: taken if `P.Z == 1`. -/
def opBeq (o : Operand) (t : Timing) (s : State) : State :=
  branchIf (fun p => p.z) o t s

/-- `$F0`, Relative. -/
def execBeq (off : Byte) (s : State) : Result := .next (opBeq (.relative off) ⟨2, 2, false⟩ s)

/-- R207, `BNE`: taken if `P.Z == 0`. -/
def opBne (o : Operand) (t : Timing) (s : State) : State :=
  branchIf (fun p => !p.z) o t s

/-- `$D0`, Relative. -/
def execBne (off : Byte) (s : State) : Result := .next (opBne (.relative off) ⟨2, 2, false⟩ s)

/-- R208, `BMI`: taken if `P.N == 1`. -/
def opBmi (o : Operand) (t : Timing) (s : State) : State :=
  branchIf (fun p => p.n) o t s

/-- `$30`, Relative. -/
def execBmi (off : Byte) (s : State) : Result := .next (opBmi (.relative off) ⟨2, 2, false⟩ s)

/-- R209, `BPL`: taken if `P.N == 0`. -/
def opBpl (o : Operand) (t : Timing) (s : State) : State :=
  branchIf (fun p => !p.n) o t s

/-- `$10`, Relative. -/
def execBpl (off : Byte) (s : State) : Result := .next (opBpl (.relative off) ⟨2, 2, false⟩ s)

/-- R210, `BVC`: taken if `P.V == 0`. -/
def opBvc (o : Operand) (t : Timing) (s : State) : State :=
  branchIf (fun p => !p.v) o t s

/-- `$50`, Relative. -/
def execBvc (off : Byte) (s : State) : Result := .next (opBvc (.relative off) ⟨2, 2, false⟩ s)

/-- R211, `BVS`: taken if `P.V == 1`. -/
def opBvs (o : Operand) (t : Timing) (s : State) : State :=
  branchIf (fun p => p.v) o t s

/-- `$70`, Relative. -/
def execBvs (off : Byte) (s : State) : Result := .next (opBvs (.relative off) ⟨2, 2, false⟩ s)

/-- R212, `BRK`: takes the software interrupt: `PC + 2` and the status with the break bit are pushed. -/
def opBrk (t : Timing) (s : State) : State :=
  enterVector Config.irqVector true (prepare .implied t s).2

/-- `$00`, Implied. -/
def execBrk (s : State) : Result := .next (opBrk ⟨2, 7, false⟩ s)

/-- R213, `RTI`: returns from an interrupt. -/
def opRti (t : Timing) (s : State) : State :=
  returnFromInterrupt (prepare .implied t s).2

/-- `$40`, Implied. -/
def execRti (s : State) : Result := .next (opRti ⟨1, 6, false⟩ s)

end Sys2Proof.Machine
end

