-- ==== Sys2Proof/Machine/FlagOps.lean ====
section
/-! DEFINITION. Flag instructions and `NOP` (`45_flags_nop.md`, R230 to R237). An instruction's operation is written once over its operand; each
opcode then has a meaning of its own: that operation on its addressing mode, with its size, cycles and page penalty. -/

namespace Sys2Proof.Machine

/-- R230, `CLC`: `C <- 0`. -/
def opClc (t : Timing) (s : State) : State :=
  registerOp (fun c => { c with p := { c.p with c := false } }) t s

/-- `$18`, Implied. -/
def execClc (s : State) : Result := .next (opClc ⟨1, 2, false⟩ s)

/-- R231, `SEC`: `C <- 1`. -/
def opSec (t : Timing) (s : State) : State :=
  registerOp (fun c => { c with p := { c.p with c := true } }) t s

/-- `$38`, Implied. -/
def execSec (s : State) : Result := .next (opSec ⟨1, 2, false⟩ s)

/-- R232, `CLI`: `I <- 0`. -/
def opCli (t : Timing) (s : State) : State :=
  registerOp (fun c => { c with p := { c.p with i := false } }) t s

/-- `$58`, Implied. -/
def execCli (s : State) : Result := .next (opCli ⟨1, 2, false⟩ s)

/-- R233, `SEI`: `I <- 1`. -/
def opSei (t : Timing) (s : State) : State :=
  registerOp (fun c => { c with p := { c.p with i := true } }) t s

/-- `$78`, Implied. -/
def execSei (s : State) : Result := .next (opSei ⟨1, 2, false⟩ s)

/-- R234, `CLV`: `V <- 0`. -/
def opClv (t : Timing) (s : State) : State :=
  registerOp (fun c => { c with p := { c.p with v := false } }) t s

/-- `$B8`, Implied. -/
def execClv (s : State) : Result := .next (opClv ⟨1, 2, false⟩ s)

/-- R235, `CLD`: `D <- 0`. -/
def opCld (t : Timing) (s : State) : State :=
  registerOp (fun c => { c with p := { c.p with d := false } }) t s

/-- `$D8`, Implied. -/
def execCld (s : State) : Result := .next (opCld ⟨1, 2, false⟩ s)

/-- R236, `SED`: `D <- 1`. -/
def opSed (t : Timing) (s : State) : State :=
  registerOp (fun c => { c with p := { c.p with d := true } }) t s

/-- `$F8`, Implied. -/
def execSed (s : State) : Result := .next (opSed ⟨1, 2, false⟩ s)

/-- R237, `NOP`: only `PC` and `cycles` change. -/
def opNop (t : Timing) (s : State) : State :=
  registerOp (fun c => c) t s

/-- `$EA`, Implied. -/
def execNop (s : State) : Result := .next (opNop ⟨1, 2, false⟩ s)

end Sys2Proof.Machine
end

