-- ==== Sys2Proof/Machine/LoadStore.lean ====
section
/-! DEFINITION. Load and store instructions (`40_load_store.md`, R130 to R135). An instruction's operation is written once over its operand; each
opcode then has a meaning of its own: that operation on its addressing mode, with its size, cycles and page penalty. -/

namespace Sys2Proof.Machine

/-- R130, `LDA`: `A <- M`, `Z` and `N` from it. -/
def opLda (o : Operand) (t : Timing) (s : State) : State :=
  readOp (fun m c => { c with a := m, p := setZN m c.p }) o t s

/-- `$A1`, IndexedIndirect. -/
def execLdaIndX (z : Byte) (s : State) : Result := .next (opLda (.indexedIndirect z) ⟨2, 6, false⟩ s)

/-- `$A5`, ZeroPage. -/
def execLdaZp (z : Byte) (s : State) : Result := .next (opLda (.zeroPage z) ⟨2, 3, false⟩ s)

/-- `$A9`, Immediate. -/
def execLdaImm (v : Byte) (s : State) : Result := .next (opLda (.immediate v) ⟨2, 2, false⟩ s)

/-- `$AD`, Absolute. -/
def execLdaAbs (a : Word) (s : State) : Result := .next (opLda (.absolute a) ⟨3, 4, false⟩ s)

/-- `$B1`, IndirectIndexed. -/
def execLdaIndY (z : Byte) (s : State) : Result := .next (opLda (.indirectIndexed z) ⟨2, 5, true⟩ s)

/-- `$B5`, ZeroPageX. -/
def execLdaZpX (z : Byte) (s : State) : Result := .next (opLda (.zeroPageX z) ⟨2, 4, false⟩ s)

/-- `$B9`, AbsoluteY. -/
def execLdaAbsY (a : Word) (s : State) : Result := .next (opLda (.absoluteY a) ⟨3, 4, true⟩ s)

/-- `$BD`, AbsoluteX. -/
def execLdaAbsX (a : Word) (s : State) : Result := .next (opLda (.absoluteX a) ⟨3, 4, true⟩ s)

/-- R131, `LDX`: `X <- M`, `Z` and `N` from it. -/
def opLdx (o : Operand) (t : Timing) (s : State) : State :=
  readOp (fun m c => { c with x := m, p := setZN m c.p }) o t s

/-- `$A2`, Immediate. -/
def execLdxImm (v : Byte) (s : State) : Result := .next (opLdx (.immediate v) ⟨2, 2, false⟩ s)

/-- `$A6`, ZeroPage. -/
def execLdxZp (z : Byte) (s : State) : Result := .next (opLdx (.zeroPage z) ⟨2, 3, false⟩ s)

/-- `$AE`, Absolute. -/
def execLdxAbs (a : Word) (s : State) : Result := .next (opLdx (.absolute a) ⟨3, 4, false⟩ s)

/-- `$B6`, ZeroPageY. -/
def execLdxZpY (z : Byte) (s : State) : Result := .next (opLdx (.zeroPageY z) ⟨2, 4, false⟩ s)

/-- `$BE`, AbsoluteY. -/
def execLdxAbsY (a : Word) (s : State) : Result := .next (opLdx (.absoluteY a) ⟨3, 4, true⟩ s)

/-- R132, `LDY`: `Y <- M`, `Z` and `N` from it. -/
def opLdy (o : Operand) (t : Timing) (s : State) : State :=
  readOp (fun m c => { c with y := m, p := setZN m c.p }) o t s

/-- `$A0`, Immediate. -/
def execLdyImm (v : Byte) (s : State) : Result := .next (opLdy (.immediate v) ⟨2, 2, false⟩ s)

/-- `$A4`, ZeroPage. -/
def execLdyZp (z : Byte) (s : State) : Result := .next (opLdy (.zeroPage z) ⟨2, 3, false⟩ s)

/-- `$AC`, Absolute. -/
def execLdyAbs (a : Word) (s : State) : Result := .next (opLdy (.absolute a) ⟨3, 4, false⟩ s)

/-- `$B4`, ZeroPageX. -/
def execLdyZpX (z : Byte) (s : State) : Result := .next (opLdy (.zeroPageX z) ⟨2, 4, false⟩ s)

/-- `$BC`, AbsoluteX. -/
def execLdyAbsX (a : Word) (s : State) : Result := .next (opLdy (.absoluteX a) ⟨3, 4, true⟩ s)

/-- R133, `STA`: `MemWrite(EA, A)`. -/
def opSta (o : Operand) (t : Timing) (s : State) : State :=
  storeOp (fun c => c.a) o t s

/-- `$81`, IndexedIndirect. -/
def execStaIndX (z : Byte) (s : State) : Result := .next (opSta (.indexedIndirect z) ⟨2, 6, false⟩ s)

/-- `$85`, ZeroPage. -/
def execStaZp (z : Byte) (s : State) : Result := .next (opSta (.zeroPage z) ⟨2, 3, false⟩ s)

/-- `$8D`, Absolute. -/
def execStaAbs (a : Word) (s : State) : Result := .next (opSta (.absolute a) ⟨3, 4, false⟩ s)

/-- `$91`, IndirectIndexed. -/
def execStaIndY (z : Byte) (s : State) : Result := .next (opSta (.indirectIndexed z) ⟨2, 6, false⟩ s)

/-- `$95`, ZeroPageX. -/
def execStaZpX (z : Byte) (s : State) : Result := .next (opSta (.zeroPageX z) ⟨2, 4, false⟩ s)

/-- `$99`, AbsoluteY. -/
def execStaAbsY (a : Word) (s : State) : Result := .next (opSta (.absoluteY a) ⟨3, 5, false⟩ s)

/-- `$9D`, AbsoluteX. -/
def execStaAbsX (a : Word) (s : State) : Result := .next (opSta (.absoluteX a) ⟨3, 5, false⟩ s)

/-- R134, `STX`: `MemWrite(EA, X)`. -/
def opStx (o : Operand) (t : Timing) (s : State) : State :=
  storeOp (fun c => c.x) o t s

/-- `$86`, ZeroPage. -/
def execStxZp (z : Byte) (s : State) : Result := .next (opStx (.zeroPage z) ⟨2, 3, false⟩ s)

/-- `$8E`, Absolute. -/
def execStxAbs (a : Word) (s : State) : Result := .next (opStx (.absolute a) ⟨3, 4, false⟩ s)

/-- `$96`, ZeroPageY. -/
def execStxZpY (z : Byte) (s : State) : Result := .next (opStx (.zeroPageY z) ⟨2, 4, false⟩ s)

/-- R135, `STY`: `MemWrite(EA, Y)`. -/
def opSty (o : Operand) (t : Timing) (s : State) : State :=
  storeOp (fun c => c.y) o t s

/-- `$84`, ZeroPage. -/
def execStyZp (z : Byte) (s : State) : Result := .next (opSty (.zeroPage z) ⟨2, 3, false⟩ s)

/-- `$8C`, Absolute. -/
def execStyAbs (a : Word) (s : State) : Result := .next (opSty (.absolute a) ⟨3, 4, false⟩ s)

/-- `$94`, ZeroPageX. -/
def execStyZpX (z : Byte) (s : State) : Result := .next (opSty (.zeroPageX z) ⟨2, 4, false⟩ s)

end Sys2Proof.Machine
end

