-- ==== Sys2Proof/Machine/Logic.lean ====
section
/-! DEFINITION. Logic, bit test, shifts and rotates (`43_logic_shift.md`, R180 to R187). An instruction's operation is written once over its operand; each
opcode then has a meaning of its own: that operation on its addressing mode, with its size, cycles and page penalty. -/

namespace Sys2Proof.Machine

/-- R180, `AND`: bitwise AND. -/
def opAnd (o : Operand) (t : Timing) (s : State) : State :=
  readOp (fun m c => { c with a := c.a &&& m, p := setZN (c.a &&& m) c.p }) o t s

/-- `$21`, IndexedIndirect. -/
def execAndIndX (z : Byte) (s : State) : Result := .next (opAnd (.indexedIndirect z) ⟨2, 6, false⟩ s)

/-- `$25`, ZeroPage. -/
def execAndZp (z : Byte) (s : State) : Result := .next (opAnd (.zeroPage z) ⟨2, 3, false⟩ s)

/-- `$29`, Immediate. -/
def execAndImm (v : Byte) (s : State) : Result := .next (opAnd (.immediate v) ⟨2, 2, false⟩ s)

/-- `$2D`, Absolute. -/
def execAndAbs (a : Word) (s : State) : Result := .next (opAnd (.absolute a) ⟨3, 4, false⟩ s)

/-- `$31`, IndirectIndexed. -/
def execAndIndY (z : Byte) (s : State) : Result := .next (opAnd (.indirectIndexed z) ⟨2, 5, true⟩ s)

/-- `$35`, ZeroPageX. -/
def execAndZpX (z : Byte) (s : State) : Result := .next (opAnd (.zeroPageX z) ⟨2, 4, false⟩ s)

/-- `$39`, AbsoluteY. -/
def execAndAbsY (a : Word) (s : State) : Result := .next (opAnd (.absoluteY a) ⟨3, 4, true⟩ s)

/-- `$3D`, AbsoluteX. -/
def execAndAbsX (a : Word) (s : State) : Result := .next (opAnd (.absoluteX a) ⟨3, 4, true⟩ s)

/-- R181, `ORA`: bitwise OR. -/
def opOra (o : Operand) (t : Timing) (s : State) : State :=
  readOp (fun m c => { c with a := c.a ||| m, p := setZN (c.a ||| m) c.p }) o t s

/-- `$01`, IndexedIndirect. -/
def execOraIndX (z : Byte) (s : State) : Result := .next (opOra (.indexedIndirect z) ⟨2, 6, false⟩ s)

/-- `$05`, ZeroPage. -/
def execOraZp (z : Byte) (s : State) : Result := .next (opOra (.zeroPage z) ⟨2, 3, false⟩ s)

/-- `$09`, Immediate. -/
def execOraImm (v : Byte) (s : State) : Result := .next (opOra (.immediate v) ⟨2, 2, false⟩ s)

/-- `$0D`, Absolute. -/
def execOraAbs (a : Word) (s : State) : Result := .next (opOra (.absolute a) ⟨3, 4, false⟩ s)

/-- `$11`, IndirectIndexed. -/
def execOraIndY (z : Byte) (s : State) : Result := .next (opOra (.indirectIndexed z) ⟨2, 5, true⟩ s)

/-- `$15`, ZeroPageX. -/
def execOraZpX (z : Byte) (s : State) : Result := .next (opOra (.zeroPageX z) ⟨2, 4, false⟩ s)

/-- `$19`, AbsoluteY. -/
def execOraAbsY (a : Word) (s : State) : Result := .next (opOra (.absoluteY a) ⟨3, 4, true⟩ s)

/-- `$1D`, AbsoluteX. -/
def execOraAbsX (a : Word) (s : State) : Result := .next (opOra (.absoluteX a) ⟨3, 4, true⟩ s)

/-- R182, `EOR`: bitwise exclusive OR. -/
def opEor (o : Operand) (t : Timing) (s : State) : State :=
  readOp (fun m c => { c with a := c.a ^^^ m, p := setZN (c.a ^^^ m) c.p }) o t s

/-- `$41`, IndexedIndirect. -/
def execEorIndX (z : Byte) (s : State) : Result := .next (opEor (.indexedIndirect z) ⟨2, 6, false⟩ s)

/-- `$45`, ZeroPage. -/
def execEorZp (z : Byte) (s : State) : Result := .next (opEor (.zeroPage z) ⟨2, 3, false⟩ s)

/-- `$49`, Immediate. -/
def execEorImm (v : Byte) (s : State) : Result := .next (opEor (.immediate v) ⟨2, 2, false⟩ s)

/-- `$4D`, Absolute. -/
def execEorAbs (a : Word) (s : State) : Result := .next (opEor (.absolute a) ⟨3, 4, false⟩ s)

/-- `$51`, IndirectIndexed. -/
def execEorIndY (z : Byte) (s : State) : Result := .next (opEor (.indirectIndexed z) ⟨2, 5, true⟩ s)

/-- `$55`, ZeroPageX. -/
def execEorZpX (z : Byte) (s : State) : Result := .next (opEor (.zeroPageX z) ⟨2, 4, false⟩ s)

/-- `$59`, AbsoluteY. -/
def execEorAbsY (a : Word) (s : State) : Result := .next (opEor (.absoluteY a) ⟨3, 4, true⟩ s)

/-- `$5D`, AbsoluteX. -/
def execEorAbsX (a : Word) (s : State) : Result := .next (opEor (.absoluteX a) ⟨3, 4, true⟩ s)

/-- R183, `BIT`: bit test. -/
def opBit (o : Operand) (t : Timing) (s : State) : State :=
  readOp (fun m c => { c with p := bitFlags c.a m c.p }) o t s

/-- `$24`, ZeroPage. -/
def execBitZp (z : Byte) (s : State) : Result := .next (opBit (.zeroPage z) ⟨2, 3, false⟩ s)

/-- `$2C`, Absolute. -/
def execBitAbs (a : Word) (s : State) : Result := .next (opBit (.absolute a) ⟨3, 4, false⟩ s)

/-- R184, `ASL`: shift left. -/
def opAsl (o : Operand) (t : Timing) (s : State) : State :=
  modifyOp aslByte o t s

/-- `$06`, ZeroPage. -/
def execAslZp (z : Byte) (s : State) : Result := .next (opAsl (.zeroPage z) ⟨2, 5, false⟩ s)

/-- `$0A`, Accumulator. -/
def execAslAcc (s : State) : Result := .next (opAsl .accumulator ⟨1, 2, false⟩ s)

/-- `$0E`, Absolute. -/
def execAslAbs (a : Word) (s : State) : Result := .next (opAsl (.absolute a) ⟨3, 6, false⟩ s)

/-- `$16`, ZeroPageX. -/
def execAslZpX (z : Byte) (s : State) : Result := .next (opAsl (.zeroPageX z) ⟨2, 6, false⟩ s)

/-- `$1E`, AbsoluteX. -/
def execAslAbsX (a : Word) (s : State) : Result := .next (opAsl (.absoluteX a) ⟨3, 7, false⟩ s)

/-- R185, `LSR`: shift right. -/
def opLsr (o : Operand) (t : Timing) (s : State) : State :=
  modifyOp lsrByte o t s

/-- `$46`, ZeroPage. -/
def execLsrZp (z : Byte) (s : State) : Result := .next (opLsr (.zeroPage z) ⟨2, 5, false⟩ s)

/-- `$4A`, Accumulator. -/
def execLsrAcc (s : State) : Result := .next (opLsr .accumulator ⟨1, 2, false⟩ s)

/-- `$4E`, Absolute. -/
def execLsrAbs (a : Word) (s : State) : Result := .next (opLsr (.absolute a) ⟨3, 6, false⟩ s)

/-- `$56`, ZeroPageX. -/
def execLsrZpX (z : Byte) (s : State) : Result := .next (opLsr (.zeroPageX z) ⟨2, 6, false⟩ s)

/-- `$5E`, AbsoluteX. -/
def execLsrAbsX (a : Word) (s : State) : Result := .next (opLsr (.absoluteX a) ⟨3, 7, false⟩ s)

/-- R186, `ROL`: rotate left. -/
def opRol (o : Operand) (t : Timing) (s : State) : State :=
  modifyOp rolByte o t s

/-- `$26`, ZeroPage. -/
def execRolZp (z : Byte) (s : State) : Result := .next (opRol (.zeroPage z) ⟨2, 5, false⟩ s)

/-- `$2A`, Accumulator. -/
def execRolAcc (s : State) : Result := .next (opRol .accumulator ⟨1, 2, false⟩ s)

/-- `$2E`, Absolute. -/
def execRolAbs (a : Word) (s : State) : Result := .next (opRol (.absolute a) ⟨3, 6, false⟩ s)

/-- `$36`, ZeroPageX. -/
def execRolZpX (z : Byte) (s : State) : Result := .next (opRol (.zeroPageX z) ⟨2, 6, false⟩ s)

/-- `$3E`, AbsoluteX. -/
def execRolAbsX (a : Word) (s : State) : Result := .next (opRol (.absoluteX a) ⟨3, 7, false⟩ s)

/-- R187, `ROR`: rotate right. -/
def opRor (o : Operand) (t : Timing) (s : State) : State :=
  modifyOp rorByte o t s

/-- `$66`, ZeroPage. -/
def execRorZp (z : Byte) (s : State) : Result := .next (opRor (.zeroPage z) ⟨2, 5, false⟩ s)

/-- `$6A`, Accumulator. -/
def execRorAcc (s : State) : Result := .next (opRor .accumulator ⟨1, 2, false⟩ s)

/-- `$6E`, Absolute. -/
def execRorAbs (a : Word) (s : State) : Result := .next (opRor (.absolute a) ⟨3, 6, false⟩ s)

/-- `$76`, ZeroPageX. -/
def execRorZpX (z : Byte) (s : State) : Result := .next (opRor (.zeroPageX z) ⟨2, 6, false⟩ s)

/-- `$7E`, AbsoluteX. -/
def execRorAbsX (a : Word) (s : State) : Result := .next (opRor (.absoluteX a) ⟨3, 7, false⟩ s)

end Sys2Proof.Machine
end

