-- ==== Sys2Proof/Machine/Stack.lean ====
section
/-! DEFINITION. Pushes and pulls (`41_transfer_stack.md`, R146 to R149). An instruction's operation is written once over its operand; each
opcode then has a meaning of its own: that operation on its addressing mode, with its size, cycles and page penalty. -/

namespace Sys2Proof.Machine

/-- R146, `PHA`: `Push(A)`. -/
def opPha (t : Timing) (s : State) : State :=
  let p := prepare .implied t s
  push p.2.cpu.a p.2

/-- `$48`, Implied. -/
def execPha (s : State) : Result := .next (opPha ⟨1, 3, false⟩ s)

/-- R147, `PHP`: `Push(PackP(1))`. -/
def opPhp (t : Timing) (s : State) : State :=
  let p := prepare .implied t s
  push (packP true p.2.cpu.p) p.2

/-- `$08`, Implied. -/
def execPhp (s : State) : Result := .next (opPhp ⟨1, 3, false⟩ s)

/-- R148, `PLA`: `A <- Pull()`, `Z` and `N` from it. -/
def opPla (t : Timing) (s : State) : State :=
  let r := pull (prepare .implied t s).2
  { r.2 with cpu := { r.2.cpu with a := r.1, p := setZN r.1 r.2.cpu.p } }

/-- `$68`, Implied. -/
def execPla (s : State) : Result := .next (opPla ⟨1, 4, false⟩ s)

/-- R149, `PLP`: `UnpackP(Pull())`. -/
def opPlp (t : Timing) (s : State) : State :=
  let r := pull (prepare .implied t s).2
  { r.2 with cpu := { r.2.cpu with p := unpackP r.1 } }

/-- `$28`, Implied. -/
def execPlp (s : State) : Result := .next (opPlp ⟨1, 4, false⟩ s)

end Sys2Proof.Machine
end

