-- ==== Sys2Proof/Machine/Transfer.lean ====
section
/-! DEFINITION. Register transfers (`41_transfer_stack.md`, R140 to R145). An instruction's operation is written once over its operand; each
opcode then has a meaning of its own: that operation on its addressing mode, with its size, cycles and page penalty. -/

namespace Sys2Proof.Machine

/-- R140, `TAX`: `X <- A`, `Z` and `N` from it. -/
def opTax (t : Timing) (s : State) : State :=
  registerOp (fun c => { c with x := c.a, p := setZN c.a c.p }) t s

/-- `$AA`, Implied. -/
def execTax (s : State) : Result := .next (opTax ⟨1, 2, false⟩ s)

/-- R141, `TAY`: `Y <- A`, `Z` and `N` from it. -/
def opTay (t : Timing) (s : State) : State :=
  registerOp (fun c => { c with y := c.a, p := setZN c.a c.p }) t s

/-- `$A8`, Implied. -/
def execTay (s : State) : Result := .next (opTay ⟨1, 2, false⟩ s)

/-- R142, `TXA`: `A <- X`, `Z` and `N` from it. -/
def opTxa (t : Timing) (s : State) : State :=
  registerOp (fun c => { c with a := c.x, p := setZN c.x c.p }) t s

/-- `$8A`, Implied. -/
def execTxa (s : State) : Result := .next (opTxa ⟨1, 2, false⟩ s)

/-- R143, `TYA`: `A <- Y`, `Z` and `N` from it. -/
def opTya (t : Timing) (s : State) : State :=
  registerOp (fun c => { c with a := c.y, p := setZN c.y c.p }) t s

/-- `$98`, Implied. -/
def execTya (s : State) : Result := .next (opTya ⟨1, 2, false⟩ s)

/-- R144, `TSX`: `X <- SP`, `Z` and `N` from it. -/
def opTsx (t : Timing) (s : State) : State :=
  registerOp (fun c => { c with x := c.sp, p := setZN c.sp c.p }) t s

/-- `$BA`, Implied. -/
def execTsx (s : State) : Result := .next (opTsx ⟨1, 2, false⟩ s)

/-- R145, `TXS`: `SP <- X`, no flag. -/
def opTxs (t : Timing) (s : State) : State :=
  registerOp (fun c => { c with sp := c.x }) t s

/-- `$9A`, Implied. -/
def execTxs (s : State) : Result := .next (opTxs ⟨1, 2, false⟩ s)

end Sys2Proof.Machine
end

