-- ==== Sys2Proof/Machine/Undoc.lean ====
section
/-! DEFINITION. The 105 undocumented opcodes (`45_flags_nop.md`, R238): each is a no-operation of its mode's length. An instruction's operation is written once over its operand; each
opcode then has a meaning of its own: that operation on its addressing mode, with its size, cycles and page penalty. -/

namespace Sys2Proof.Machine

/-- R238, `UNDOC`: operand bytes and pointer bytes are read, nothing else happens (D6). -/
def opUndoc (o : Operand) (t : Timing) (s : State) : State :=
  (prepare o t s).2

/-- `$02`, Implied. -/
def execUndoc02 (s : State) : Result := .next (opUndoc .implied ⟨1, 2, false⟩ s)

/-- `$03`, IndexedIndirect. -/
def execUndoc03 (z : Byte) (s : State) : Result := .next (opUndoc (.indexedIndirect z) ⟨2, 8, false⟩ s)

/-- `$04`, ZeroPage. -/
def execUndoc04 (z : Byte) (s : State) : Result := .next (opUndoc (.zeroPage z) ⟨2, 3, false⟩ s)

/-- `$07`, ZeroPage. -/
def execUndoc07 (z : Byte) (s : State) : Result := .next (opUndoc (.zeroPage z) ⟨2, 5, false⟩ s)

/-- `$0B`, Immediate. -/
def execUndoc0B (v : Byte) (s : State) : Result := .next (opUndoc (.immediate v) ⟨2, 2, false⟩ s)

/-- `$0C`, Absolute. -/
def execUndoc0C (a : Word) (s : State) : Result := .next (opUndoc (.absolute a) ⟨3, 4, false⟩ s)

/-- `$0F`, Absolute. -/
def execUndoc0F (a : Word) (s : State) : Result := .next (opUndoc (.absolute a) ⟨3, 6, false⟩ s)

/-- `$12`, Implied. -/
def execUndoc12 (s : State) : Result := .next (opUndoc .implied ⟨1, 2, false⟩ s)

/-- `$13`, IndirectIndexed. -/
def execUndoc13 (z : Byte) (s : State) : Result := .next (opUndoc (.indirectIndexed z) ⟨2, 8, false⟩ s)

/-- `$14`, ZeroPageX. -/
def execUndoc14 (z : Byte) (s : State) : Result := .next (opUndoc (.zeroPageX z) ⟨2, 4, false⟩ s)

/-- `$17`, ZeroPageX. -/
def execUndoc17 (z : Byte) (s : State) : Result := .next (opUndoc (.zeroPageX z) ⟨2, 6, false⟩ s)

/-- `$1A`, Implied. -/
def execUndoc1A (s : State) : Result := .next (opUndoc .implied ⟨1, 2, false⟩ s)

/-- `$1B`, AbsoluteY. -/
def execUndoc1B (a : Word) (s : State) : Result := .next (opUndoc (.absoluteY a) ⟨3, 7, false⟩ s)

/-- `$1C`, AbsoluteX. -/
def execUndoc1C (a : Word) (s : State) : Result := .next (opUndoc (.absoluteX a) ⟨3, 4, true⟩ s)

/-- `$1F`, AbsoluteX. -/
def execUndoc1F (a : Word) (s : State) : Result := .next (opUndoc (.absoluteX a) ⟨3, 7, false⟩ s)

/-- `$22`, Implied. -/
def execUndoc22 (s : State) : Result := .next (opUndoc .implied ⟨1, 2, false⟩ s)

/-- `$23`, IndexedIndirect. -/
def execUndoc23 (z : Byte) (s : State) : Result := .next (opUndoc (.indexedIndirect z) ⟨2, 8, false⟩ s)

/-- `$27`, ZeroPage. -/
def execUndoc27 (z : Byte) (s : State) : Result := .next (opUndoc (.zeroPage z) ⟨2, 5, false⟩ s)

/-- `$2B`, Immediate. -/
def execUndoc2B (v : Byte) (s : State) : Result := .next (opUndoc (.immediate v) ⟨2, 2, false⟩ s)

/-- `$2F`, Absolute. -/
def execUndoc2F (a : Word) (s : State) : Result := .next (opUndoc (.absolute a) ⟨3, 6, false⟩ s)

/-- `$32`, Implied. -/
def execUndoc32 (s : State) : Result := .next (opUndoc .implied ⟨1, 2, false⟩ s)

/-- `$33`, IndirectIndexed. -/
def execUndoc33 (z : Byte) (s : State) : Result := .next (opUndoc (.indirectIndexed z) ⟨2, 8, false⟩ s)

/-- `$34`, ZeroPageX. -/
def execUndoc34 (z : Byte) (s : State) : Result := .next (opUndoc (.zeroPageX z) ⟨2, 4, false⟩ s)

/-- `$37`, ZeroPageX. -/
def execUndoc37 (z : Byte) (s : State) : Result := .next (opUndoc (.zeroPageX z) ⟨2, 6, false⟩ s)

/-- `$3A`, Implied. -/
def execUndoc3A (s : State) : Result := .next (opUndoc .implied ⟨1, 2, false⟩ s)

/-- `$3B`, AbsoluteY. -/
def execUndoc3B (a : Word) (s : State) : Result := .next (opUndoc (.absoluteY a) ⟨3, 7, false⟩ s)

/-- `$3C`, AbsoluteX. -/
def execUndoc3C (a : Word) (s : State) : Result := .next (opUndoc (.absoluteX a) ⟨3, 4, true⟩ s)

/-- `$3F`, AbsoluteX. -/
def execUndoc3F (a : Word) (s : State) : Result := .next (opUndoc (.absoluteX a) ⟨3, 7, false⟩ s)

/-- `$42`, Implied. -/
def execUndoc42 (s : State) : Result := .next (opUndoc .implied ⟨1, 2, false⟩ s)

/-- `$43`, IndexedIndirect. -/
def execUndoc43 (z : Byte) (s : State) : Result := .next (opUndoc (.indexedIndirect z) ⟨2, 8, false⟩ s)

/-- `$44`, ZeroPage. -/
def execUndoc44 (z : Byte) (s : State) : Result := .next (opUndoc (.zeroPage z) ⟨2, 3, false⟩ s)

/-- `$47`, ZeroPage. -/
def execUndoc47 (z : Byte) (s : State) : Result := .next (opUndoc (.zeroPage z) ⟨2, 5, false⟩ s)

/-- `$4B`, Immediate. -/
def execUndoc4B (v : Byte) (s : State) : Result := .next (opUndoc (.immediate v) ⟨2, 2, false⟩ s)

/-- `$4F`, Absolute. -/
def execUndoc4F (a : Word) (s : State) : Result := .next (opUndoc (.absolute a) ⟨3, 6, false⟩ s)

/-- `$52`, Implied. -/
def execUndoc52 (s : State) : Result := .next (opUndoc .implied ⟨1, 2, false⟩ s)

/-- `$53`, IndirectIndexed. -/
def execUndoc53 (z : Byte) (s : State) : Result := .next (opUndoc (.indirectIndexed z) ⟨2, 8, false⟩ s)

/-- `$54`, ZeroPageX. -/
def execUndoc54 (z : Byte) (s : State) : Result := .next (opUndoc (.zeroPageX z) ⟨2, 4, false⟩ s)

/-- `$57`, ZeroPageX. -/
def execUndoc57 (z : Byte) (s : State) : Result := .next (opUndoc (.zeroPageX z) ⟨2, 6, false⟩ s)

/-- `$5A`, Implied. -/
def execUndoc5A (s : State) : Result := .next (opUndoc .implied ⟨1, 2, false⟩ s)

/-- `$5B`, AbsoluteY. -/
def execUndoc5B (a : Word) (s : State) : Result := .next (opUndoc (.absoluteY a) ⟨3, 7, false⟩ s)

/-- `$5C`, AbsoluteX. -/
def execUndoc5C (a : Word) (s : State) : Result := .next (opUndoc (.absoluteX a) ⟨3, 4, true⟩ s)

/-- `$5F`, AbsoluteX. -/
def execUndoc5F (a : Word) (s : State) : Result := .next (opUndoc (.absoluteX a) ⟨3, 7, false⟩ s)

/-- `$62`, Implied. -/
def execUndoc62 (s : State) : Result := .next (opUndoc .implied ⟨1, 2, false⟩ s)

/-- `$63`, IndexedIndirect. -/
def execUndoc63 (z : Byte) (s : State) : Result := .next (opUndoc (.indexedIndirect z) ⟨2, 8, false⟩ s)

/-- `$64`, ZeroPage. -/
def execUndoc64 (z : Byte) (s : State) : Result := .next (opUndoc (.zeroPage z) ⟨2, 3, false⟩ s)

/-- `$67`, ZeroPage. -/
def execUndoc67 (z : Byte) (s : State) : Result := .next (opUndoc (.zeroPage z) ⟨2, 5, false⟩ s)

/-- `$6B`, Immediate. -/
def execUndoc6B (v : Byte) (s : State) : Result := .next (opUndoc (.immediate v) ⟨2, 2, false⟩ s)

/-- `$6F`, Absolute. -/
def execUndoc6F (a : Word) (s : State) : Result := .next (opUndoc (.absolute a) ⟨3, 6, false⟩ s)

/-- `$72`, Implied. -/
def execUndoc72 (s : State) : Result := .next (opUndoc .implied ⟨1, 2, false⟩ s)

/-- `$73`, IndirectIndexed. -/
def execUndoc73 (z : Byte) (s : State) : Result := .next (opUndoc (.indirectIndexed z) ⟨2, 8, false⟩ s)

/-- `$74`, ZeroPageX. -/
def execUndoc74 (z : Byte) (s : State) : Result := .next (opUndoc (.zeroPageX z) ⟨2, 4, false⟩ s)

/-- `$77`, ZeroPageX. -/
def execUndoc77 (z : Byte) (s : State) : Result := .next (opUndoc (.zeroPageX z) ⟨2, 6, false⟩ s)

/-- `$7A`, Implied. -/
def execUndoc7A (s : State) : Result := .next (opUndoc .implied ⟨1, 2, false⟩ s)

/-- `$7B`, AbsoluteY. -/
def execUndoc7B (a : Word) (s : State) : Result := .next (opUndoc (.absoluteY a) ⟨3, 7, false⟩ s)

/-- `$7C`, AbsoluteX. -/
def execUndoc7C (a : Word) (s : State) : Result := .next (opUndoc (.absoluteX a) ⟨3, 4, true⟩ s)

/-- `$7F`, AbsoluteX. -/
def execUndoc7F (a : Word) (s : State) : Result := .next (opUndoc (.absoluteX a) ⟨3, 7, false⟩ s)

/-- `$80`, Immediate. -/
def execUndoc80 (v : Byte) (s : State) : Result := .next (opUndoc (.immediate v) ⟨2, 2, false⟩ s)

/-- `$82`, Immediate. -/
def execUndoc82 (v : Byte) (s : State) : Result := .next (opUndoc (.immediate v) ⟨2, 2, false⟩ s)

/-- `$83`, IndexedIndirect. -/
def execUndoc83 (z : Byte) (s : State) : Result := .next (opUndoc (.indexedIndirect z) ⟨2, 6, false⟩ s)

/-- `$87`, ZeroPage. -/
def execUndoc87 (z : Byte) (s : State) : Result := .next (opUndoc (.zeroPage z) ⟨2, 3, false⟩ s)

/-- `$89`, Immediate. -/
def execUndoc89 (v : Byte) (s : State) : Result := .next (opUndoc (.immediate v) ⟨2, 2, false⟩ s)

/-- `$8B`, Immediate. -/
def execUndoc8B (v : Byte) (s : State) : Result := .next (opUndoc (.immediate v) ⟨2, 2, false⟩ s)

/-- `$8F`, Absolute. -/
def execUndoc8F (a : Word) (s : State) : Result := .next (opUndoc (.absolute a) ⟨3, 4, false⟩ s)

/-- `$92`, Implied. -/
def execUndoc92 (s : State) : Result := .next (opUndoc .implied ⟨1, 2, false⟩ s)

/-- `$93`, IndirectIndexed. -/
def execUndoc93 (z : Byte) (s : State) : Result := .next (opUndoc (.indirectIndexed z) ⟨2, 6, false⟩ s)

/-- `$97`, ZeroPageY. -/
def execUndoc97 (z : Byte) (s : State) : Result := .next (opUndoc (.zeroPageY z) ⟨2, 4, false⟩ s)

/-- `$9B`, AbsoluteY. -/
def execUndoc9B (a : Word) (s : State) : Result := .next (opUndoc (.absoluteY a) ⟨3, 5, false⟩ s)

/-- `$9C`, AbsoluteX. -/
def execUndoc9C (a : Word) (s : State) : Result := .next (opUndoc (.absoluteX a) ⟨3, 5, false⟩ s)

/-- `$9E`, AbsoluteY. -/
def execUndoc9E (a : Word) (s : State) : Result := .next (opUndoc (.absoluteY a) ⟨3, 5, false⟩ s)

/-- `$9F`, AbsoluteY. -/
def execUndoc9F (a : Word) (s : State) : Result := .next (opUndoc (.absoluteY a) ⟨3, 5, false⟩ s)

/-- `$A3`, IndexedIndirect. -/
def execUndocA3 (z : Byte) (s : State) : Result := .next (opUndoc (.indexedIndirect z) ⟨2, 6, false⟩ s)

/-- `$A7`, ZeroPage. -/
def execUndocA7 (z : Byte) (s : State) : Result := .next (opUndoc (.zeroPage z) ⟨2, 3, false⟩ s)

/-- `$AB`, Immediate. -/
def execUndocAB (v : Byte) (s : State) : Result := .next (opUndoc (.immediate v) ⟨2, 2, false⟩ s)

/-- `$AF`, Absolute. -/
def execUndocAF (a : Word) (s : State) : Result := .next (opUndoc (.absolute a) ⟨3, 4, false⟩ s)

/-- `$B2`, Implied. -/
def execUndocB2 (s : State) : Result := .next (opUndoc .implied ⟨1, 2, false⟩ s)

/-- `$B3`, IndirectIndexed. -/
def execUndocB3 (z : Byte) (s : State) : Result := .next (opUndoc (.indirectIndexed z) ⟨2, 5, true⟩ s)

/-- `$B7`, ZeroPageY. -/
def execUndocB7 (z : Byte) (s : State) : Result := .next (opUndoc (.zeroPageY z) ⟨2, 4, false⟩ s)

/-- `$BB`, AbsoluteY. -/
def execUndocBB (a : Word) (s : State) : Result := .next (opUndoc (.absoluteY a) ⟨3, 4, true⟩ s)

/-- `$BF`, AbsoluteY. -/
def execUndocBF (a : Word) (s : State) : Result := .next (opUndoc (.absoluteY a) ⟨3, 4, true⟩ s)

/-- `$C2`, Immediate. -/
def execUndocC2 (v : Byte) (s : State) : Result := .next (opUndoc (.immediate v) ⟨2, 2, false⟩ s)

/-- `$C3`, IndexedIndirect. -/
def execUndocC3 (z : Byte) (s : State) : Result := .next (opUndoc (.indexedIndirect z) ⟨2, 8, false⟩ s)

/-- `$C7`, ZeroPage. -/
def execUndocC7 (z : Byte) (s : State) : Result := .next (opUndoc (.zeroPage z) ⟨2, 5, false⟩ s)

/-- `$CB`, Immediate. -/
def execUndocCB (v : Byte) (s : State) : Result := .next (opUndoc (.immediate v) ⟨2, 2, false⟩ s)

/-- `$CF`, Absolute. -/
def execUndocCF (a : Word) (s : State) : Result := .next (opUndoc (.absolute a) ⟨3, 6, false⟩ s)

/-- `$D2`, Implied. -/
def execUndocD2 (s : State) : Result := .next (opUndoc .implied ⟨1, 2, false⟩ s)

/-- `$D3`, IndirectIndexed. -/
def execUndocD3 (z : Byte) (s : State) : Result := .next (opUndoc (.indirectIndexed z) ⟨2, 8, false⟩ s)

/-- `$D4`, ZeroPageX. -/
def execUndocD4 (z : Byte) (s : State) : Result := .next (opUndoc (.zeroPageX z) ⟨2, 4, false⟩ s)

/-- `$D7`, ZeroPageX. -/
def execUndocD7 (z : Byte) (s : State) : Result := .next (opUndoc (.zeroPageX z) ⟨2, 6, false⟩ s)

/-- `$DA`, Implied. -/
def execUndocDA (s : State) : Result := .next (opUndoc .implied ⟨1, 2, false⟩ s)

/-- `$DB`, AbsoluteY. -/
def execUndocDB (a : Word) (s : State) : Result := .next (opUndoc (.absoluteY a) ⟨3, 7, false⟩ s)

/-- `$DC`, AbsoluteX. -/
def execUndocDC (a : Word) (s : State) : Result := .next (opUndoc (.absoluteX a) ⟨3, 4, true⟩ s)

/-- `$DF`, AbsoluteX. -/
def execUndocDF (a : Word) (s : State) : Result := .next (opUndoc (.absoluteX a) ⟨3, 7, false⟩ s)

/-- `$E2`, Immediate. -/
def execUndocE2 (v : Byte) (s : State) : Result := .next (opUndoc (.immediate v) ⟨2, 2, false⟩ s)

/-- `$E3`, IndexedIndirect. -/
def execUndocE3 (z : Byte) (s : State) : Result := .next (opUndoc (.indexedIndirect z) ⟨2, 8, false⟩ s)

/-- `$E7`, ZeroPage. -/
def execUndocE7 (z : Byte) (s : State) : Result := .next (opUndoc (.zeroPage z) ⟨2, 5, false⟩ s)

/-- `$EB`, Immediate. -/
def execUndocEB (v : Byte) (s : State) : Result := .next (opUndoc (.immediate v) ⟨2, 2, false⟩ s)

/-- `$EF`, Absolute. -/
def execUndocEF (a : Word) (s : State) : Result := .next (opUndoc (.absolute a) ⟨3, 6, false⟩ s)

/-- `$F2`, Implied. -/
def execUndocF2 (s : State) : Result := .next (opUndoc .implied ⟨1, 2, false⟩ s)

/-- `$F3`, IndirectIndexed. -/
def execUndocF3 (z : Byte) (s : State) : Result := .next (opUndoc (.indirectIndexed z) ⟨2, 8, false⟩ s)

/-- `$F4`, ZeroPageX. -/
def execUndocF4 (z : Byte) (s : State) : Result := .next (opUndoc (.zeroPageX z) ⟨2, 4, false⟩ s)

/-- `$F7`, ZeroPageX. -/
def execUndocF7 (z : Byte) (s : State) : Result := .next (opUndoc (.zeroPageX z) ⟨2, 6, false⟩ s)

/-- `$FA`, Implied. -/
def execUndocFA (s : State) : Result := .next (opUndoc .implied ⟨1, 2, false⟩ s)

/-- `$FB`, AbsoluteY. -/
def execUndocFB (a : Word) (s : State) : Result := .next (opUndoc (.absoluteY a) ⟨3, 7, false⟩ s)

/-- `$FC`, AbsoluteX. -/
def execUndocFC (a : Word) (s : State) : Result := .next (opUndoc (.absoluteX a) ⟨3, 4, true⟩ s)

/-- `$FF`, AbsoluteX. -/
def execUndocFF (a : Word) (s : State) : Result := .next (opUndoc (.absoluteX a) ⟨3, 7, false⟩ s)

end Sys2Proof.Machine
end

