-- ==== Sys2Proof/Machine/Dispatch.lean ====
section
/-! DEFINITION. One arm per constructor of Instr: each calls the meaning of its row of the opcode table. -/

namespace Sys2Proof.Machine

def exec (i : Instr) (s : State) : Host.Outcome State Fault Refusal :=
  match i with
  | .adcIndX z => Sys2Proof.Machine.execAdcIndX z s
  | .adcZp z => Sys2Proof.Machine.execAdcZp z s
  | .adcImm v => Sys2Proof.Machine.execAdcImm v s
  | .adcAbs a => Sys2Proof.Machine.execAdcAbs a s
  | .adcIndY z => Sys2Proof.Machine.execAdcIndY z s
  | .adcZpX z => Sys2Proof.Machine.execAdcZpX z s
  | .adcAbsY a => Sys2Proof.Machine.execAdcAbsY a s
  | .adcAbsX a => Sys2Proof.Machine.execAdcAbsX a s
  | .andIndX z => Sys2Proof.Machine.execAndIndX z s
  | .andZp z => Sys2Proof.Machine.execAndZp z s
  | .andImm v => Sys2Proof.Machine.execAndImm v s
  | .andAbs a => Sys2Proof.Machine.execAndAbs a s
  | .andIndY z => Sys2Proof.Machine.execAndIndY z s
  | .andZpX z => Sys2Proof.Machine.execAndZpX z s
  | .andAbsY a => Sys2Proof.Machine.execAndAbsY a s
  | .andAbsX a => Sys2Proof.Machine.execAndAbsX a s
  | .aslZp z => Sys2Proof.Machine.execAslZp z s
  | .aslAcc => Sys2Proof.Machine.execAslAcc s
  | .aslAbs a => Sys2Proof.Machine.execAslAbs a s
  | .aslZpX z => Sys2Proof.Machine.execAslZpX z s
  | .aslAbsX a => Sys2Proof.Machine.execAslAbsX a s
  | .bcc off => Sys2Proof.Machine.execBcc off s
  | .bcs off => Sys2Proof.Machine.execBcs off s
  | .beq off => Sys2Proof.Machine.execBeq off s
  | .bitZp z => Sys2Proof.Machine.execBitZp z s
  | .bitAbs a => Sys2Proof.Machine.execBitAbs a s
  | .bmi off => Sys2Proof.Machine.execBmi off s
  | .bne off => Sys2Proof.Machine.execBne off s
  | .bpl off => Sys2Proof.Machine.execBpl off s
  | .brk => Sys2Proof.Machine.execBrk s
  | .bvc off => Sys2Proof.Machine.execBvc off s
  | .bvs off => Sys2Proof.Machine.execBvs off s
  | .clc => Sys2Proof.Machine.execClc s
  | .cld => Sys2Proof.Machine.execCld s
  | .cli => Sys2Proof.Machine.execCli s
  | .clv => Sys2Proof.Machine.execClv s
  | .cmpIndX z => Sys2Proof.Machine.execCmpIndX z s
  | .cmpZp z => Sys2Proof.Machine.execCmpZp z s
  | .cmpImm v => Sys2Proof.Machine.execCmpImm v s
  | .cmpAbs a => Sys2Proof.Machine.execCmpAbs a s
  | .cmpIndY z => Sys2Proof.Machine.execCmpIndY z s
  | .cmpZpX z => Sys2Proof.Machine.execCmpZpX z s
  | .cmpAbsY a => Sys2Proof.Machine.execCmpAbsY a s
  | .cmpAbsX a => Sys2Proof.Machine.execCmpAbsX a s
  | .cpxImm v => Sys2Proof.Machine.execCpxImm v s
  | .cpxZp z => Sys2Proof.Machine.execCpxZp z s
  | .cpxAbs a => Sys2Proof.Machine.execCpxAbs a s
  | .cpyImm v => Sys2Proof.Machine.execCpyImm v s
  | .cpyZp z => Sys2Proof.Machine.execCpyZp z s
  | .cpyAbs a => Sys2Proof.Machine.execCpyAbs a s
  | .decZp z => Sys2Proof.Machine.execDecZp z s
  | .decAbs a => Sys2Proof.Machine.execDecAbs a s
  | .decZpX z => Sys2Proof.Machine.execDecZpX z s
  | .decAbsX a => Sys2Proof.Machine.execDecAbsX a s
  | .dex => Sys2Proof.Machine.execDex s
  | .dey => Sys2Proof.Machine.execDey s
  | .eorIndX z => Sys2Proof.Machine.execEorIndX z s
  | .eorZp z => Sys2Proof.Machine.execEorZp z s
  | .eorImm v => Sys2Proof.Machine.execEorImm v s
  | .eorAbs a => Sys2Proof.Machine.execEorAbs a s
  | .eorIndY z => Sys2Proof.Machine.execEorIndY z s
  | .eorZpX z => Sys2Proof.Machine.execEorZpX z s
  | .eorAbsY a => Sys2Proof.Machine.execEorAbsY a s
  | .eorAbsX a => Sys2Proof.Machine.execEorAbsX a s
  | .incZp z => Sys2Proof.Machine.execIncZp z s
  | .incAbs a => Sys2Proof.Machine.execIncAbs a s
  | .incZpX z => Sys2Proof.Machine.execIncZpX z s
  | .incAbsX a => Sys2Proof.Machine.execIncAbsX a s
  | .inx => Sys2Proof.Machine.execInx s
  | .iny => Sys2Proof.Machine.execIny s
  | .jmpAbs a => Sys2Proof.Machine.execJmpAbs a s
  | .jmpInd p => Sys2Proof.Machine.execJmpInd p s
  | .jsrAbs a => Sys2Proof.Machine.execJsrAbs a s
  | .ldaIndX z => Sys2Proof.Machine.execLdaIndX z s
  | .ldaZp z => Sys2Proof.Machine.execLdaZp z s
  | .ldaImm v => Sys2Proof.Machine.execLdaImm v s
  | .ldaAbs a => Sys2Proof.Machine.execLdaAbs a s
  | .ldaIndY z => Sys2Proof.Machine.execLdaIndY z s
  | .ldaZpX z => Sys2Proof.Machine.execLdaZpX z s
  | .ldaAbsY a => Sys2Proof.Machine.execLdaAbsY a s
  | .ldaAbsX a => Sys2Proof.Machine.execLdaAbsX a s
  | .ldxImm v => Sys2Proof.Machine.execLdxImm v s
  | .ldxZp z => Sys2Proof.Machine.execLdxZp z s
  | .ldxAbs a => Sys2Proof.Machine.execLdxAbs a s
  | .ldxZpY z => Sys2Proof.Machine.execLdxZpY z s
  | .ldxAbsY a => Sys2Proof.Machine.execLdxAbsY a s
  | .ldyImm v => Sys2Proof.Machine.execLdyImm v s
  | .ldyZp z => Sys2Proof.Machine.execLdyZp z s
  | .ldyAbs a => Sys2Proof.Machine.execLdyAbs a s
  | .ldyZpX z => Sys2Proof.Machine.execLdyZpX z s
  | .ldyAbsX a => Sys2Proof.Machine.execLdyAbsX a s
  | .lsrZp z => Sys2Proof.Machine.execLsrZp z s
  | .lsrAcc => Sys2Proof.Machine.execLsrAcc s
  | .lsrAbs a => Sys2Proof.Machine.execLsrAbs a s
  | .lsrZpX z => Sys2Proof.Machine.execLsrZpX z s
  | .lsrAbsX a => Sys2Proof.Machine.execLsrAbsX a s
  | .nop => Sys2Proof.Machine.execNop s
  | .oraIndX z => Sys2Proof.Machine.execOraIndX z s
  | .oraZp z => Sys2Proof.Machine.execOraZp z s
  | .oraImm v => Sys2Proof.Machine.execOraImm v s
  | .oraAbs a => Sys2Proof.Machine.execOraAbs a s
  | .oraIndY z => Sys2Proof.Machine.execOraIndY z s
  | .oraZpX z => Sys2Proof.Machine.execOraZpX z s
  | .oraAbsY a => Sys2Proof.Machine.execOraAbsY a s
  | .oraAbsX a => Sys2Proof.Machine.execOraAbsX a s
  | .pha => Sys2Proof.Machine.execPha s
  | .php => Sys2Proof.Machine.execPhp s
  | .pla => Sys2Proof.Machine.execPla s
  | .plp => Sys2Proof.Machine.execPlp s
  | .rolZp z => Sys2Proof.Machine.execRolZp z s
  | .rolAcc => Sys2Proof.Machine.execRolAcc s
  | .rolAbs a => Sys2Proof.Machine.execRolAbs a s
  | .rolZpX z => Sys2Proof.Machine.execRolZpX z s
  | .rolAbsX a => Sys2Proof.Machine.execRolAbsX a s
  | .rorZp z => Sys2Proof.Machine.execRorZp z s
  | .rorAcc => Sys2Proof.Machine.execRorAcc s
  | .rorAbs a => Sys2Proof.Machine.execRorAbs a s
  | .rorZpX z => Sys2Proof.Machine.execRorZpX z s
  | .rorAbsX a => Sys2Proof.Machine.execRorAbsX a s
  | .rti => Sys2Proof.Machine.execRti s
  | .rts => Sys2Proof.Machine.execRts s
  | .sbcIndX z => Sys2Proof.Machine.execSbcIndX z s
  | .sbcZp z => Sys2Proof.Machine.execSbcZp z s
  | .sbcImm v => Sys2Proof.Machine.execSbcImm v s
  | .sbcAbs a => Sys2Proof.Machine.execSbcAbs a s
  | .sbcIndY z => Sys2Proof.Machine.execSbcIndY z s
  | .sbcZpX z => Sys2Proof.Machine.execSbcZpX z s
  | .sbcAbsY a => Sys2Proof.Machine.execSbcAbsY a s
  | .sbcAbsX a => Sys2Proof.Machine.execSbcAbsX a s
  | .sec => Sys2Proof.Machine.execSec s
  | .sed => Sys2Proof.Machine.execSed s
  | .sei => Sys2Proof.Machine.execSei s
  | .staIndX z => Sys2Proof.Machine.execStaIndX z s
  | .staZp z => Sys2Proof.Machine.execStaZp z s
  | .staAbs a => Sys2Proof.Machine.execStaAbs a s
  | .staIndY z => Sys2Proof.Machine.execStaIndY z s
  | .staZpX z => Sys2Proof.Machine.execStaZpX z s
  | .staAbsY a => Sys2Proof.Machine.execStaAbsY a s
  | .staAbsX a => Sys2Proof.Machine.execStaAbsX a s
  | .stxZp z => Sys2Proof.Machine.execStxZp z s
  | .stxAbs a => Sys2Proof.Machine.execStxAbs a s
  | .stxZpY z => Sys2Proof.Machine.execStxZpY z s
  | .styZp z => Sys2Proof.Machine.execStyZp z s
  | .styAbs a => Sys2Proof.Machine.execStyAbs a s
  | .styZpX z => Sys2Proof.Machine.execStyZpX z s
  | .tax => Sys2Proof.Machine.execTax s
  | .tay => Sys2Proof.Machine.execTay s
  | .tsx => Sys2Proof.Machine.execTsx s
  | .txa => Sys2Proof.Machine.execTxa s
  | .txs => Sys2Proof.Machine.execTxs s
  | .tya => Sys2Proof.Machine.execTya s
  | .undoc02 => Sys2Proof.Machine.execUndoc02 s
  | .undoc03 z => Sys2Proof.Machine.execUndoc03 z s
  | .undoc04 z => Sys2Proof.Machine.execUndoc04 z s
  | .undoc07 z => Sys2Proof.Machine.execUndoc07 z s
  | .undoc0B v => Sys2Proof.Machine.execUndoc0B v s
  | .undoc0C a => Sys2Proof.Machine.execUndoc0C a s
  | .undoc0F a => Sys2Proof.Machine.execUndoc0F a s
  | .undoc12 => Sys2Proof.Machine.execUndoc12 s
  | .undoc13 z => Sys2Proof.Machine.execUndoc13 z s
  | .undoc14 z => Sys2Proof.Machine.execUndoc14 z s
  | .undoc17 z => Sys2Proof.Machine.execUndoc17 z s
  | .undoc1A => Sys2Proof.Machine.execUndoc1A s
  | .undoc1B a => Sys2Proof.Machine.execUndoc1B a s
  | .undoc1C a => Sys2Proof.Machine.execUndoc1C a s
  | .undoc1F a => Sys2Proof.Machine.execUndoc1F a s
  | .undoc22 => Sys2Proof.Machine.execUndoc22 s
  | .undoc23 z => Sys2Proof.Machine.execUndoc23 z s
  | .undoc27 z => Sys2Proof.Machine.execUndoc27 z s
  | .undoc2B v => Sys2Proof.Machine.execUndoc2B v s
  | .undoc2F a => Sys2Proof.Machine.execUndoc2F a s
  | .undoc32 => Sys2Proof.Machine.execUndoc32 s
  | .undoc33 z => Sys2Proof.Machine.execUndoc33 z s
  | .undoc34 z => Sys2Proof.Machine.execUndoc34 z s
  | .undoc37 z => Sys2Proof.Machine.execUndoc37 z s
  | .undoc3A => Sys2Proof.Machine.execUndoc3A s
  | .undoc3B a => Sys2Proof.Machine.execUndoc3B a s
  | .undoc3C a => Sys2Proof.Machine.execUndoc3C a s
  | .undoc3F a => Sys2Proof.Machine.execUndoc3F a s
  | .undoc42 => Sys2Proof.Machine.execUndoc42 s
  | .undoc43 z => Sys2Proof.Machine.execUndoc43 z s
  | .undoc44 z => Sys2Proof.Machine.execUndoc44 z s
  | .undoc47 z => Sys2Proof.Machine.execUndoc47 z s
  | .undoc4B v => Sys2Proof.Machine.execUndoc4B v s
  | .undoc4F a => Sys2Proof.Machine.execUndoc4F a s
  | .undoc52 => Sys2Proof.Machine.execUndoc52 s
  | .undoc53 z => Sys2Proof.Machine.execUndoc53 z s
  | .undoc54 z => Sys2Proof.Machine.execUndoc54 z s
  | .undoc57 z => Sys2Proof.Machine.execUndoc57 z s
  | .undoc5A => Sys2Proof.Machine.execUndoc5A s
  | .undoc5B a => Sys2Proof.Machine.execUndoc5B a s
  | .undoc5C a => Sys2Proof.Machine.execUndoc5C a s
  | .undoc5F a => Sys2Proof.Machine.execUndoc5F a s
  | .undoc62 => Sys2Proof.Machine.execUndoc62 s
  | .undoc63 z => Sys2Proof.Machine.execUndoc63 z s
  | .undoc64 z => Sys2Proof.Machine.execUndoc64 z s
  | .undoc67 z => Sys2Proof.Machine.execUndoc67 z s
  | .undoc6B v => Sys2Proof.Machine.execUndoc6B v s
  | .undoc6F a => Sys2Proof.Machine.execUndoc6F a s
  | .undoc72 => Sys2Proof.Machine.execUndoc72 s
  | .undoc73 z => Sys2Proof.Machine.execUndoc73 z s
  | .undoc74 z => Sys2Proof.Machine.execUndoc74 z s
  | .undoc77 z => Sys2Proof.Machine.execUndoc77 z s
  | .undoc7A => Sys2Proof.Machine.execUndoc7A s
  | .undoc7B a => Sys2Proof.Machine.execUndoc7B a s
  | .undoc7C a => Sys2Proof.Machine.execUndoc7C a s
  | .undoc7F a => Sys2Proof.Machine.execUndoc7F a s
  | .undoc80 v => Sys2Proof.Machine.execUndoc80 v s
  | .undoc82 v => Sys2Proof.Machine.execUndoc82 v s
  | .undoc83 z => Sys2Proof.Machine.execUndoc83 z s
  | .undoc87 z => Sys2Proof.Machine.execUndoc87 z s
  | .undoc89 v => Sys2Proof.Machine.execUndoc89 v s
  | .undoc8B v => Sys2Proof.Machine.execUndoc8B v s
  | .undoc8F a => Sys2Proof.Machine.execUndoc8F a s
  | .undoc92 => Sys2Proof.Machine.execUndoc92 s
  | .undoc93 z => Sys2Proof.Machine.execUndoc93 z s
  | .undoc97 z => Sys2Proof.Machine.execUndoc97 z s
  | .undoc9B a => Sys2Proof.Machine.execUndoc9B a s
  | .undoc9C a => Sys2Proof.Machine.execUndoc9C a s
  | .undoc9E a => Sys2Proof.Machine.execUndoc9E a s
  | .undoc9F a => Sys2Proof.Machine.execUndoc9F a s
  | .undocA3 z => Sys2Proof.Machine.execUndocA3 z s
  | .undocA7 z => Sys2Proof.Machine.execUndocA7 z s
  | .undocAB v => Sys2Proof.Machine.execUndocAB v s
  | .undocAF a => Sys2Proof.Machine.execUndocAF a s
  | .undocB2 => Sys2Proof.Machine.execUndocB2 s
  | .undocB3 z => Sys2Proof.Machine.execUndocB3 z s
  | .undocB7 z => Sys2Proof.Machine.execUndocB7 z s
  | .undocBB a => Sys2Proof.Machine.execUndocBB a s
  | .undocBF a => Sys2Proof.Machine.execUndocBF a s
  | .undocC2 v => Sys2Proof.Machine.execUndocC2 v s
  | .undocC3 z => Sys2Proof.Machine.execUndocC3 z s
  | .undocC7 z => Sys2Proof.Machine.execUndocC7 z s
  | .undocCB v => Sys2Proof.Machine.execUndocCB v s
  | .undocCF a => Sys2Proof.Machine.execUndocCF a s
  | .undocD2 => Sys2Proof.Machine.execUndocD2 s
  | .undocD3 z => Sys2Proof.Machine.execUndocD3 z s
  | .undocD4 z => Sys2Proof.Machine.execUndocD4 z s
  | .undocD7 z => Sys2Proof.Machine.execUndocD7 z s
  | .undocDA => Sys2Proof.Machine.execUndocDA s
  | .undocDB a => Sys2Proof.Machine.execUndocDB a s
  | .undocDC a => Sys2Proof.Machine.execUndocDC a s
  | .undocDF a => Sys2Proof.Machine.execUndocDF a s
  | .undocE2 v => Sys2Proof.Machine.execUndocE2 v s
  | .undocE3 z => Sys2Proof.Machine.execUndocE3 z s
  | .undocE7 z => Sys2Proof.Machine.execUndocE7 z s
  | .undocEB v => Sys2Proof.Machine.execUndocEB v s
  | .undocEF a => Sys2Proof.Machine.execUndocEF a s
  | .undocF2 => Sys2Proof.Machine.execUndocF2 s
  | .undocF3 z => Sys2Proof.Machine.execUndocF3 z s
  | .undocF4 z => Sys2Proof.Machine.execUndocF4 z s
  | .undocF7 z => Sys2Proof.Machine.execUndocF7 z s
  | .undocFA => Sys2Proof.Machine.execUndocFA s
  | .undocFB a => Sys2Proof.Machine.execUndocFB a s
  | .undocFC a => Sys2Proof.Machine.execUndocFC a s
  | .undocFF a => Sys2Proof.Machine.execUndocFF a s

end Sys2Proof.Machine
end

