-- ==== Sys2Proof/Machine/PpuTick.lean ====
section
/-! DEFINITION. One tick of the picture processor (R341): the NMI delay (R344), the mapper's notification, pixel
compositing (R356, R357), background fetches (R351), scroll increments and copies (R352), sprite evaluation (R353 to
R355), the VBlank flag (R343), and the counters. What a background tile or a sprite row looks like as pixels is a free
function (Config, log entry 12). -/

namespace Sys2Proof.Machine

/-- R342: the visible scanlines. -/
def Ppu.visibleLine (p : Ppu) : Bool := decide (p.scanLine < 240)

/-- R342: the pre-render scanline. -/
def Ppu.preRenderLine (p : Ppu) : Bool := p.scanLine == 261

/-- R344: the delay counter above 0 decrements, and at 0 the NMI is triggered if `nmi_out` is still true. -/
def nmiCountdown (s : State) : State :=
  if s.ppu.nmiDelay = 0 then s
  else
    let s1 := { s with ppu := { s.ppu with nmiDelay := s.ppu.nmiDelay - 1 } }
    if s.ppu.nmiDelay = 1 && s.ppu.nmiOut then triggerNmi s1 else s1

/-- R356: a layer's pixel is transparent when its two pattern bits are 00. -/
def opaquePixel (v : BitVec 4) : Bool := v.extractLsb' 0 2 != 0

/-- The 4-bit pixel of a retained sprite at column `x`; transparent outside its 8 columns. -/
def Sprite.pixelAt (sp : Sprite) (x : Nat) : BitVec 4 :=
  if sp.x.toNat ≤ x ∧ x < sp.x.toNat + 8 then (sp.pattern >>> (4 * (x - sp.x.toNat))).setWidth 4 else 0

/-- R356: the first retained sprite, in buffer order, that has an opaque pixel at column `x`. -/
def spriteAt (sprites : List Sprite) (x : Nat) : Option Sprite := sprites.find? (fun sp => opaquePixel (sp.pixelAt x))

/-- R357: the background pixel at column `x`, after the show and left-column bits. -/
def backgroundAt (p : Ppu) (x : Nat) : BitVec 4 :=
  if p.mask.getLsbD 3 && (decide (8 ≤ x) || p.mask.getLsbD 1) then
    Config.backgroundPixel p.olderTile p.newerTile p.fineX p.cycle
  else 0

/-- R357: the retained sprite seen at column `x`, after the show and left-column bits. -/
def visibleSpriteAt (p : Ppu) (x : Nat) : Option Sprite :=
  if p.mask.getLsbD 4 && (decide (8 ≤ x) || p.mask.getLsbD 2) then spriteAt p.sprites x else none

/-- R356: the pixel at column `x`, with the sprite-zero hit. -/
def composite (p : Ppu) (x : Nat) : Ppu :=
  match visibleSpriteAt p x with
  | none =>
    { p with pixel := if opaquePixel (backgroundAt p x) then .background (backgroundAt p x) else .backdrop }
  | some sp =>
    if opaquePixel (backgroundAt p x) then
      { p with
        spriteZeroHit := p.spriteZeroHit || (sp.index == 0 && decide (x < 255))
        pixel := if sp.behind then .background (backgroundAt p x) else .sprite (sp.pixelAt x) }
    else { p with pixel := .sprite (sp.pixelAt x) }

/-- R356: compositing runs at cycles 1 to 256 of visible lines; the column is `cycle - 1`. -/
def pixelDot (p : Ppu) : Ppu :=
  if p.visibleLine && decide (1 ≤ p.cycle ∧ p.cycle ≤ 256) then composite p (p.cycle - 1) else p

/-- R351: a rendering-enabled visible or pre-render line. -/
def Ppu.renderLine (p : Ppu) : Bool := p.rendering && (p.visibleLine || p.preRenderLine)

/-- R351: the fetch cycles, 1 to 256 and 321 to 336. -/
def Ppu.fetchCycle (p : Ppu) : Bool := decide ((1 ≤ p.cycle ∧ p.cycle ≤ 256) ∨ (321 ≤ p.cycle ∧ p.cycle ≤ 336))

/-- The address of a tile row's pattern byte: the table, then the tile's place in it (R346, R355; log entry 12). -/
def patternAddress (table : Bool) (tile : Byte) (row : Nat) (high : Bool) : Nat :=
  0x1000 * table.toNat + (Config.patternOffset tile row high).toNat

/-- R352: the horizontal increment. -/
def incrementX (v : BitVec 15) : BitVec 15 :=
  if field 0 5 v = 31 then setField 0 5 0 v ^^^ 0x0400 else setField 0 5 (field 0 5 v + 1) v

/-- R352: the vertical increment. -/
def incrementY (v : BitVec 15) : BitVec 15 :=
  if field 12 3 v < 7 then setField 12 3 (field 12 3 v + 1) v
  else
    let v1 := setField 12 3 0 v
    if field 5 5 v = 29 then setField 5 5 0 v1 ^^^ 0x0800
    else if field 5 5 v = 31 then setField 5 5 0 v1
    else setField 5 5 (field 5 5 v + 1) v1

/-- R352: the horizontal copy. -/
def copyX (t v : BitVec 15) : BitVec 15 := setField 10 1 (field 10 1 t) (setField 0 5 (field 0 5 t) v)

/-- R352: the vertical copy. -/
def copyY (t v : BitVec 15) : BitVec 15 := setField 11 4 (field 11 4 t) (setField 5 5 (field 5 5 t) v)

/-- R351: one background fetch, by the phase within a group of 8 cycles: the nametable byte at 1, the attribute byte at
3, the pattern bytes at 5 and 7; at 0 the fetched tile goes to the shift data. -/
def fetchAtPhase (s : State) : State :=
  match s.ppu.cycle % 8 with
  | 1 =>
    let n := ppuRead (Config.nametableAddress s.ppu.v).toNat s
    let r := enhanceTileIndex n.1 n.2
    { r.2 with ppu := { r.2.ppu with ntLatch := r.1 } }
  | 3 =>
    let n := ppuRead (Config.attributeAddress s.ppu.v).toNat s
    let r := enhanceTileAttributes n.1 n.2
    { r.2 with ppu := { r.2.ppu with atLatch := r.1 } }
  | 5 =>
    let r := ppuRead (patternAddress (s.ppu.ctrl.getLsbD 4) s.ppu.ntLatch (field 12 3 s.ppu.v) false) s
    { r.2 with ppu := { r.2.ppu with lowLatch := r.1 } }
  | 7 =>
    let r := ppuRead (patternAddress (s.ppu.ctrl.getLsbD 4) s.ppu.ntLatch (field 12 3 s.ppu.v) true) s
    { r.2 with ppu := { r.2.ppu with highLatch := r.1 } }
  | 0 =>
    { s with ppu := { s.ppu with
        olderTile := s.ppu.newerTile
        newerTile := ⟨s.ppu.ntLatch, s.ppu.atLatch, s.ppu.lowLatch, s.ppu.highLatch, s.ppu.v⟩
        v := incrementX s.ppu.v } }
  | _ => s

/-- R351: background fetches run in the fetch cycles of a rendering line. -/
def fetchDot (s : State) : State := if s.ppu.renderLine && s.ppu.fetchCycle then fetchAtPhase s else s

/-- R351: vertical increment at cycle 256, horizontal copy at 257, vertical copy at 280 to 304 of the pre-render line. -/
def scrollDot (p : Ppu) : Ppu :=
  if !p.renderLine then p
  else if p.cycle = 256 then { p with v := incrementY p.v }
  else if p.cycle = 257 then { p with v := copyX p.t p.v }
  else if p.preRenderLine && decide (280 ≤ p.cycle ∧ p.cycle ≤ 304) then { p with v := copyY p.t p.v }
  else p

/-- R353: byte `k` of OAM entry `i`. -/
def oamByte (oam : Memory) (i k : Nat) : Byte := oam.read (4 * i + k)

/-- R353: entry `i` qualifies when `0 <= scanLine - OAM[4i] < h`. -/
def qualifies (p : Ppu) (i : Nat) : Bool :=
  let top := (oamByte p.oam i 0).toNat
  decide (top ≤ p.scanLine ∧ p.scanLine - top < p.spriteHeight)

/-- R353: the qualifying entries, in index order. -/
def qualifying (p : Ppu) : List Nat := (List.range 64).filter (qualifies p)

/-- R353, R354: the row of entry `i` seen on this line; bit 7 of the attribute byte flips it vertically. -/
def spriteRow (p : Ppu) (i : Nat) : Nat :=
  let row := p.scanLine - (oamByte p.oam i 0).toNat
  if (oamByte p.oam i 2).getLsbD 7 then p.spriteHeight - 1 - row else row

/-- R346, R355: the pattern table and the tile index of row `row` of entry `i`, and the row inside that tile. -/
def spriteTile (p : Ppu) (i row : Nat) : Bool × Byte × Nat :=
  let tile := oamByte p.oam i 1
  if p.ctrl.getLsbD 5 then
    (tile.getLsbD 0, if row < 8 then tile &&& 0xFE else (tile &&& 0xFE) + 1, row % 8)
  else (p.ctrl.getLsbD 3, tile, row)

/-- R353, R354: the 4-bit pixel of column `j` of a sprite row: two pattern bits, one of each pattern byte, and the two
palette bits of the attribute byte, whose bit 6 flips the row horizontally. -/
def spritePixel (low high attrs : Byte) (j : Nat) : BitVec 4 :=
  let bit := Config.patternColumn (if attrs.getLsbD 6 then 7 - j else j)
  BitVec.ofNat 4 ((low.getLsbD bit).toNat + 2 * (high.getLsbD bit).toNat + 4 * (attrs.toNat % 4))

/-- R354: the 32-bit pattern data of a sprite row, column `j` in bits `4j+3` to `4j`. -/
def spriteRowPixels (low high attrs : Byte) : BitVec 32 :=
  BitVec.ofNat 32 ((List.range 8).foldl (fun acc j => acc + (spritePixel low high attrs j).toNat * 16 ^ j) 0)

/-- R354: fetches the pattern bytes of entry `i` and puts it behind the sprites retained so far. -/
def retainSprite (s : State) (i : Nat) : State :=
  let tile := spriteTile s.ppu i (spriteRow s.ppu i)
  let low := ppuRead (patternAddress tile.1 tile.2.1 tile.2.2 false) s
  let high := ppuRead (patternAddress tile.1 tile.2.1 tile.2.2 true) low.2
  let attrs := oamByte s.ppu.oam i 2
  let sprite : Sprite := ⟨spriteRowPixels low.1 high.1 attrs, oamByte s.ppu.oam i 3, attrs.getLsbD 5, i⟩
  { high.2 with ppu := { high.2.ppu with sprites := high.2.ppu.sprites ++ [sprite] } }

/-- R354: tells the mapper whether sprite patterns are being fetched. -/
def setAccessingSprites (on : Bool) (s : State) : State :=
  { s with mapper := { s.mapper with accessingSprites := on } }

/-- R353: sprite evaluation retains the first 8 qualifying entries and sets the overflow flag when a 9th is found. -/
def evaluateSprites (s : State) : State :=
  let hits := qualifying s.ppu
  let s1 := { s with ppu := { s.ppu with
    sprites := [], spriteOverflow := s.ppu.spriteOverflow || decide (8 < hits.length) } }
  setAccessingSprites false ((hits.take 8).foldl retainSprite (setAccessingSprites true s1))

/-- R353: evaluation runs at cycle 257 of a visible line, with rendering enabled (D29). What the sprite buffer holds for
the line after one whose cycle 257 passed with rendering off is not in the spec: here the sprites retained last stay until
the next evaluation or the end of the frame (DESIGN CHOICE, log entry 30). -/
def spriteDot (s : State) : State :=
  if s.ppu.rendering && s.ppu.visibleLine && s.ppu.cycle == 257 then evaluateSprites s else s

/-- R343, R358: VBlank set at (241, 1); it and the sprite flags cleared at (261, 1). -/
def vblankDot (p : Ppu) : Ppu :=
  if p.cycle = 1 && p.scanLine = 241 then armNmi p { p with vblank := true }
  else if p.cycle = 1 && p.preRenderLine then
    { p with vblank := false, spriteZeroHit := false, spriteOverflow := false }
  else p

/-- R341: the counters advance. The sprite buffers do not persist across frames (R340). -/
def advanceDot (p : Ppu) : Ppu :=
  if p.cycle < 340 then { p with cycle := p.cycle + 1 }
  else if p.scanLine < 261 then { p with cycle := 0, scanLine := p.scanLine + 1 }
  else { p with cycle := 0, scanLine := 0, sprites := [] }

/-- R341: one tick: the actions of the current (`scanLine`, `cycle`), then the counters. -/
def ppuTick (s : State) : State :=
  let s1 := mapperVideo (nmiCountdown s)
  let s2 := fetchDot { s1 with ppu := pixelDot s1.ppu }
  let s3 := spriteDot { s2 with ppu := scrollDot s2.ppu }
  { s3 with ppu := advanceDot (vblankDot s3.ppu) }

/-- R320: `k` ticks. -/
def ppuTicks : Nat → State → State
  | 0, s => s
  | k + 1, s => ppuTicks k (ppuTick s)

end Sys2Proof.Machine
end

