-- ==== Sys2Proof/Machine/Execute.lean ====
section
/-! DEFINITION. The processor's step `ExecuteInstruction()` (R305): stall units, interrupt sampling, fetch, execution;
and the console's `Step()` around it (R320): the picture processor's ticks and the audio unit's steps. -/

namespace Sys2Proof.Machine

/-- R304, R306: at an instruction boundary an NMI is entered before an IRQ, an IRQ only if `I` is clear. -/
def sampleInterrupts (s : State) : State :=
  if s.lines.nmiPending then
    interruptEntry Config.nmiVector { s with lines := { s.lines with nmiPending := false } }
  else if s.lines.irq.asserted && !s.cpu.p.i then interruptEntry Config.irqVector s
  else s

/-- R59 (1) and (2), R110 steps (1) and (2): reads the opcode at `PC` and the operand bytes after it, and decodes. -/
def fetch (s : State) : Instr × State :=
  let op := memRead s.cpu.pc s
  match operandBytes op.1 with
  | 0 => (instrAt op.1 0 0, op.2)
  | 1 =>
    let b := memRead (s.cpu.pc + 1) op.2
    (instrAt op.1 b.1 0, b.2)
  | _ =>
    let lo := memRead (s.cpu.pc + 1) op.2
    let hi := memRead (s.cpu.pc + 2) lo.2
    (instrAt op.1 0 (wordOfBytes lo.1 hi.1), hi.2)

/-- R305: one stall unit. -/
def stallUnit (s : State) : State :=
  { s with
    cpu := { s.cpu with cycles := s.cpu.cycles + 1 }
    lines := { s.lines with stall := s.lines.stall - 1 } }

/-- R305: `ExecuteInstruction()`. -/
def executeInstruction (s : State) : Result :=
  if s.lines.stall = 0 then
    let f := fetch (sampleInterrupts s)
    exec f.1 f.2
  else .next (stallUnit s)

/-- R370, R371: one thing the audio unit does in a step; a DMC fetch reads through the bus. -/
def applyAudioAction (s : State) : AudioAction → State
  | .line l => applyApuLine s l
  | .addStall n => addStall n s
  | .dmcFetch a n => addStall n (memRead a s).2

/-- R320, R370: one step of the audio unit. -/
def audioStep (s : State) : State :=
  match s.audio.steps with
  | [] => s
  | acts :: rest => acts.foldl applyAudioAction { s with audio := { s.audio with steps := rest } }

/-- R320: `k` audio steps. -/
def audioSteps : Nat → State → State
  | 0, s => s
  | k + 1, s => audioSteps k (audioStep s)

/-- R320: the other agents catch up with `n` processor cycles: 3 picture-processor ticks a cycle, then 1 audio step. -/
def catchUp (n : Nat) (s : State) : State := audioSteps (Config.apuPerCpu * n) (ppuTicks (Config.ppuPerCpu * n) s)

/-- R320: the console's `Step()`. The cycles an `ExecuteInstruction()` call returns are the counter's increase. -/
def consoleStep (s : State) : Result :=
  match executeInstruction s with
  | .next s1 => .next (catchUp (s1.cpu.cycles - s.cpu.cycles) s1)
  | .fault r => .fault r
  | .refused r => .refused r

/-- Stores byte `v` so that a fetch from `a` reads it: in the backing array if a fetch from `a` ends there, else in slot
`a` itself, whose read handler becomes the default one. -/
def placeByte (a : Word) (v : Byte) (s : State) : State :=
  match targetOf s.bus.readSlots a with
  | (c, .ram) => { s with bus := { s.bus with backing := s.bus.backing.write c v } }
  | _ =>
    { s with bus := { s.bus with
        backing := s.bus.backing.write a.toNat v
        readSlots := ⟨a.toNat, a.toNat, .ram⟩ :: s.bus.readSlots } }

/-- Places the 3 bytes of an instruction at `PC`, and drops what would keep the next step from fetching there: stall
units and pending interrupts. -/
def placeInstruction (b0 b1 b2 : Byte) (s : State) : State :=
  let s1 := { s with lines := ⟨0, false, ⟨false, false, false⟩⟩ }
  placeByte s.cpu.pc b0 (placeByte (s.cpu.pc + 1) b1 (placeByte (s.cpu.pc + 2) b2 s1))

end Sys2Proof.Machine
end

