-- ==== Sys2Proof/Machine/Step.lean ====
section
/-! DEFINITION. One step of the machine is the console's `Step()` (R320), the only entry point that drives the agents
(R6, R323). -/

namespace Sys2Proof.Machine

/-- R320: one step of the whole machine. -/
def step (s : State) : Host.Outcome State Fault Refusal := consoleStep s

/-- `s` with the instruction whose bits are `w` (`nbits` of them, bit 0 the least significant bit of the first byte)
stored where `step` fetches next (log entry 16). -/
def State.withFetchWord (s : State) (nbits w : Nat) : State :=
  placeInstruction (BitVec.ofNat 8 (w % 2 ^ nbits)) (BitVec.ofNat 8 (w % 2 ^ nbits / 256))
    (BitVec.ofNat 8 (w % 2 ^ nbits / 65536)) s

end Sys2Proof.Machine
end

