-- ==== Sys2Proof/Machine/HostCalls.lean ====
section
/-! DEFINITION. What the outside world may do between steps (R323): reset and power cycle (R400 to R402), the bus
configuration (R64 to R70), the raw memory pass-through (R74), cartridge and controllers (R67, R81), interrupt lines and
stalls (R302, R303, R317, R39), and `Run` (R321). -/

namespace Sys2Proof.Machine

/-- R65, R68: `ConfigureAddressMirroring(base, segmentLength, range)`. A range that the segment does not divide is a
configuration error with no partial effect; so is an empty segment or a range past the address space (log entry 10). -/
def configureAddressMirroring (base segmentLength range : Nat) (s : State) : Result :=
  if segmentLength = 0 ∨ range % segmentLength ≠ 0 ∨ 65536 < base + range then .fault .malformedMirroring
  else if range = 0 then .next s
  else
    let span : Span := ⟨base + segmentLength, base + range - 1, .redirect base segmentLength⟩
    .next { s with bus := { s.bus with
      readSlots := span :: s.bus.readSlots
      writeSlots := span :: s.bus.writeSlots } }

/-- R69: `Wipe()`, the backing storage to zero, the wiring kept. -/
def wipe (s : State) : State := { s with bus := { s.bus with backing := [] } }

/-- R74: `ReadByte(a)`. -/
def readByte (a : Word) (s : State) : Byte × State := memRead a s

/-- R74: `WriteByte(a, v)`. -/
def writeByte (a : Word) (v : Byte) (s : State) : State := memWrite a v s

/-- R402: a power cycle is `Wipe()` followed by `Reset()`. -/
def powerCycle (s : State) : State := resetProcessor (wipe s)

/-- R67, R322, R375: loading a cartridge hands `$4100` to `$FFFF` and the pattern range of the picture processor's space
to its mapper, whose replies are given (log entries 7 and 11). What remains of an earlier cartridge is not in the spec:
here its interceptions outside that range and its slots below `$4100` stay and answer from the new mapper, and an
asserted `mapper` IRQ source stays (DESIGN CHOICE, log entry 29). Nor is it there what `SpriteSize` the new mapper is told
before a write to `$2000`: here control bit 5 as it is, at the load (DESIGN CHOICE, log entry 29). -/
def loadCartridge (m : Mapper) (s : State) : State :=
  let s1 := configureMemoryAccessRange (BitVec.ofNat 16 Config.cartBase) 0xFFFF .mapper .mapper s
  { s1 with
    mapper := { m with loaded := true, tallSprites := s.ppu.ctrl.getLsbD 5 }
    ppu := { s1.ppu with slots := ⟨0, 0x1FFF, true, true⟩ :: s1.ppu.slots } }

/-- R81, R68: attaches a device to controller port 1 or 2; another port number is a configuration error. -/
def attachController (port : Nat) (c : Controller) (s : State) : Result :=
  match port with
  | 1 => .next { s with pad1 := c }
  | 2 => .next { s with pad2 := c }
  | _ => .fault .controllerPortOutOfRange

/-- R317: the IRQ line's `is-pending` for one source, membership in `irq_sources`. -/
def irqPending (k : IrqSource) (s : State) : Bool :=
  match k with
  | .apuFrame => s.lines.irq.apuFrame
  | .apuDmc => s.lines.irq.apuDmc
  | .mapper => s.lines.irq.mapper

/-- R321: the loop of `Run`, with the budget as the fraction `num / den` of cycles: the state, and the cycles `used`.
`fuel` bounds the number of steps. -/
def runLoop (num den : Nat) : Nat → Nat → State → Host.Outcome (State × Nat) Fault Refusal
  | 0, used, s => .next (s, used)
  | fuel + 1, used, s =>
    if used * den < num then
      match consoleStep s with
      | .next s1 => runLoop num den fuel (used + (s1.cpu.cycles - s.cpu.cycles)) s1
      | .fault r => .fault r
      | .refused r => .refused r
    else .next (s, used)

/-- R321: `Run(deltaTime)` with `deltaTime = num / den` seconds, which returns the cycles consumed. Each step uses at
least one cycle, so the budget's numerator bounds the number of steps. -/
def run (num den : Nat) (s : State) : Host.Outcome (State × Nat) Fault Refusal :=
  runLoop (num * Config.cpuFrequency) den (num * Config.cpuFrequency) 0 s

end Sys2Proof.Machine
end

