-- ==== Sys2Proof/Safety.lean ====
section
/-! DEFINITION. What a well-formed state is, and what a safe run is. -/

namespace Sys2Proof.Machine

/-- A redirect lies above its canonical segment, which is not empty (R65), and a span inside the address space. -/
abbrev Span.sound (sp : Span) : Prop :=
  match sp.handler with
  | .redirect base len => 0 < len ∧ base + len ≤ sp.first
  | _ => True

/-- The wiring is sound: every mirror redirect goes to a lower address (R65). -/
abbrev wiringSound (slots : List Span) : Prop := ∀ sp ∈ slots, sp.sound

/-- R50, R62, R63: the backing array is in canonical form and lies in the address space, and the wiring is sound. -/
abbrev Bus.sound (b : Bus) : Prop :=
  b.backing.wf ∧ b.backing.within 65536 ∧ wiringSound b.readSlots ∧ wiringSound b.writeSlots

/-- R340, R341, R353: the counters' ranges, at most 8 retained sprites each with an OAM index, the OAM of 256 bytes
and the picture processor's memory of `0x4000` (R349) in canonical form, and the NMI delay at most its constant. -/
abbrev Ppu.sound (p : Ppu) : Prop :=
  p.cycle ≤ 340 ∧ p.scanLine ≤ 261 ∧ p.nmiDelay ≤ Config.nmiDelay ∧ p.sprites.length ≤ 8 ∧
    (∀ sp ∈ p.sprites, sp.index < 64) ∧ p.oam.wf ∧ p.oam.within 256 ∧ p.memory.wf ∧ p.memory.within 0x4000

/-- The invariant of the machine. -/
abbrev State.Inv (s : State) : Prop := s.bus.sound ∧ s.ppu.sound

/-- A step is safe when it neither faults nor is refused (R300: the processor raises no synchronous exception). -/
def safeStep (s : State) : Prop := ∃ t, step s = .next t

end Sys2Proof.Machine
end

