-- ==== Sys2Proof/WellFormed.lean ====
section
/-! DEFINITION. Well-formedness. Every value of `Instr` is well-formed, since its operand has the type of its mode and no
operand value is reserved (R109). What can be ill-formed is an instruction as written for the assembler: a mnemonic with
an operand in a mode it does not have (R118), or a branch whose target is out of range (R117). -/

namespace Sys2Proof

/-- The addressing modes each rule lists under "Operands" (R130 to R238). -/
def Mnemonic.modes : Mnemonic → List Mode
  | .lda | .adc | .sbc | .cmp | .and | .ora | .eor =>
    [.immediate, .zeroPage, .zeroPageX, .absolute, .absoluteX, .absoluteY, .indexedIndirect, .indirectIndexed]
  | .ldx => [.immediate, .zeroPage, .zeroPageY, .absolute, .absoluteY]
  | .ldy => [.immediate, .zeroPage, .zeroPageX, .absolute, .absoluteX]
  | .sta => [.zeroPage, .zeroPageX, .absolute, .absoluteX, .absoluteY, .indexedIndirect, .indirectIndexed]
  | .stx => [.zeroPage, .zeroPageY, .absolute]
  | .sty => [.zeroPage, .zeroPageX, .absolute]
  | .cpx | .cpy => [.immediate, .zeroPage, .absolute]
  | .inc | .dec => [.zeroPage, .zeroPageX, .absolute, .absoluteX]
  | .asl | .lsr | .rol | .ror => [.accumulator, .zeroPage, .zeroPageX, .absolute, .absoluteX]
  | .bit => [.zeroPage, .absolute]
  | .jmp => [.absolute, .indirect]
  | .jsr => [.absolute]
  | .bcc | .bcs | .beq | .bne | .bmi | .bpl | .bvc | .bvs => [.relative]
  | .undoc =>
    [.implied, .immediate, .zeroPage, .zeroPageX, .zeroPageY, .absolute, .absoluteX, .absoluteY, .indexedIndirect,
     .indirectIndexed]
  | .brk | .clc | .cld | .cli | .clv | .dex | .dey | .inx | .iny | .nop | .pha | .php | .pla | .plp | .rti | .rts
  | .sec | .sed | .sei | .tax | .tay | .tsx | .txa | .txs | .tya => [.implied]

/-- R118: whether a mnemonic has an addressing mode. -/
def Mnemonic.allows (m : Mnemonic) (mode : Mode) : Bool := m.modes.contains mode

/-- An instruction's mnemonic allows its addressing mode. It holds for every instruction. -/
def Instr.wellFormed (i : Instr) : Bool := i.mnemonic.allows i.operand.mode

/-- An instruction as written for the assembler (R116). -/
structure SourceInstr where
  mnemonic : Mnemonic
  operand  : Operand
  deriving DecidableEq, Repr

/-- R118: a written instruction is well-formed when its mnemonic is a documented one that has the operand's mode;
undocumented opcodes have no spelling (R116). -/
def SourceInstr.wellFormed (s : SourceInstr) : Bool :=
  s.mnemonic != .undoc && s.mnemonic.allows s.operand.mode

/-- The assembler's errors (R117, R118); errors of the tool, never of the processor. -/
inductive AssemblyError where
  | unsupportedMode
  | branchOutOfRange
  deriving DecidableEq, Repr

/-- R117: the offset byte of a branch at `a` to `b`, `B - (A + 2)` if it lies in -128 to 127. -/
def branchOffset (a b : Word) : Except AssemblyError Byte :=
  let offset := (b - (a + 2)).toInt
  if -128 ≤ offset ∧ offset ≤ 127 then .ok (BitVec.ofInt 8 offset) else .error .branchOutOfRange

/-- R118, R119: the bytes of a written instruction, its opcode looked up by mnemonic and mode in the opcode table. -/
def assemble (s : SourceInstr) : Except AssemblyError (List Byte) :=
  match opcodeTable.find? (fun r => r.mnemonic == s.mnemonic && r.mode == s.operand.mode) with
  | some r =>
    if s.wellFormed then
      let bytes := BitVec.ofNat 8 r.opcode :: s.operand.bytes
      .ok (bytes ++ List.replicate (r.timing.size - bytes.length) 0)
    else .error .unsupportedMode
  | none => .error .unsupportedMode

end Sys2Proof
end

