-- ==== Sys2Proof/Certificates/Slice0/Obligations.lean ====
section
/-! DEFINITION. The statements for the provers, and the few words they are written in. In a statement about an
instruction `i`, `prepare i.operand i.timing s` gives the effective address and the state in which the operation runs
(`EffectiveAddresses`, `InstructionAccounting`), and `readOperand` the operand byte with the state after its one read. -/

namespace Sys2Proof.Machine

/-- The rows of the opcode table with mnemonic `m`. -/
def tableRowsOf (m : Mnemonic) : List OpcodeRow := opcodeTable.filter (fun r => r.mnemonic == m)

/-- R107, rows 1 to 21. -/
def undocRows1 : List OpcodeRow :=
  [⟨0x02, .undoc, .implied, ⟨1, 2, false⟩⟩,
   ⟨0x03, .undoc, .indexedIndirect, ⟨2, 8, false⟩⟩,
   ⟨0x04, .undoc, .zeroPage, ⟨2, 3, false⟩⟩,
   ⟨0x07, .undoc, .zeroPage, ⟨2, 5, false⟩⟩,
   ⟨0x0B, .undoc, .immediate, ⟨2, 2, false⟩⟩,
   ⟨0x0C, .undoc, .absolute, ⟨3, 4, false⟩⟩,
   ⟨0x0F, .undoc, .absolute, ⟨3, 6, false⟩⟩,
   ⟨0x12, .undoc, .implied, ⟨1, 2, false⟩⟩,
   ⟨0x13, .undoc, .indirectIndexed, ⟨2, 8, false⟩⟩,
   ⟨0x14, .undoc, .zeroPageX, ⟨2, 4, false⟩⟩,
   ⟨0x17, .undoc, .zeroPageX, ⟨2, 6, false⟩⟩,
   ⟨0x1A, .undoc, .implied, ⟨1, 2, false⟩⟩,
   ⟨0x1B, .undoc, .absoluteY, ⟨3, 7, false⟩⟩,
   ⟨0x1C, .undoc, .absoluteX, ⟨3, 4, true⟩⟩,
   ⟨0x1F, .undoc, .absoluteX, ⟨3, 7, false⟩⟩,
   ⟨0x22, .undoc, .implied, ⟨1, 2, false⟩⟩,
   ⟨0x23, .undoc, .indexedIndirect, ⟨2, 8, false⟩⟩,
   ⟨0x27, .undoc, .zeroPage, ⟨2, 5, false⟩⟩,
   ⟨0x2B, .undoc, .immediate, ⟨2, 2, false⟩⟩,
   ⟨0x2F, .undoc, .absolute, ⟨3, 6, false⟩⟩,
   ⟨0x32, .undoc, .implied, ⟨1, 2, false⟩⟩]

/-- R107, rows 22 to 42. -/
def undocRows2 : List OpcodeRow :=
  [⟨0x33, .undoc, .indirectIndexed, ⟨2, 8, false⟩⟩,
   ⟨0x34, .undoc, .zeroPageX, ⟨2, 4, false⟩⟩,
   ⟨0x37, .undoc, .zeroPageX, ⟨2, 6, false⟩⟩,
   ⟨0x3A, .undoc, .implied, ⟨1, 2, false⟩⟩,
   ⟨0x3B, .undoc, .absoluteY, ⟨3, 7, false⟩⟩,
   ⟨0x3C, .undoc, .absoluteX, ⟨3, 4, true⟩⟩,
   ⟨0x3F, .undoc, .absoluteX, ⟨3, 7, false⟩⟩,
   ⟨0x42, .undoc, .implied, ⟨1, 2, false⟩⟩,
   ⟨0x43, .undoc, .indexedIndirect, ⟨2, 8, false⟩⟩,
   ⟨0x44, .undoc, .zeroPage, ⟨2, 3, false⟩⟩,
   ⟨0x47, .undoc, .zeroPage, ⟨2, 5, false⟩⟩,
   ⟨0x4B, .undoc, .immediate, ⟨2, 2, false⟩⟩,
   ⟨0x4F, .undoc, .absolute, ⟨3, 6, false⟩⟩,
   ⟨0x52, .undoc, .implied, ⟨1, 2, false⟩⟩,
   ⟨0x53, .undoc, .indirectIndexed, ⟨2, 8, false⟩⟩,
   ⟨0x54, .undoc, .zeroPageX, ⟨2, 4, false⟩⟩,
   ⟨0x57, .undoc, .zeroPageX, ⟨2, 6, false⟩⟩,
   ⟨0x5A, .undoc, .implied, ⟨1, 2, false⟩⟩,
   ⟨0x5B, .undoc, .absoluteY, ⟨3, 7, false⟩⟩,
   ⟨0x5C, .undoc, .absoluteX, ⟨3, 4, true⟩⟩,
   ⟨0x5F, .undoc, .absoluteX, ⟨3, 7, false⟩⟩]

/-- R107, rows 43 to 63. -/
def undocRows3 : List OpcodeRow :=
  [⟨0x62, .undoc, .implied, ⟨1, 2, false⟩⟩,
   ⟨0x63, .undoc, .indexedIndirect, ⟨2, 8, false⟩⟩,
   ⟨0x64, .undoc, .zeroPage, ⟨2, 3, false⟩⟩,
   ⟨0x67, .undoc, .zeroPage, ⟨2, 5, false⟩⟩,
   ⟨0x6B, .undoc, .immediate, ⟨2, 2, false⟩⟩,
   ⟨0x6F, .undoc, .absolute, ⟨3, 6, false⟩⟩,
   ⟨0x72, .undoc, .implied, ⟨1, 2, false⟩⟩,
   ⟨0x73, .undoc, .indirectIndexed, ⟨2, 8, false⟩⟩,
   ⟨0x74, .undoc, .zeroPageX, ⟨2, 4, false⟩⟩,
   ⟨0x77, .undoc, .zeroPageX, ⟨2, 6, false⟩⟩,
   ⟨0x7A, .undoc, .implied, ⟨1, 2, false⟩⟩,
   ⟨0x7B, .undoc, .absoluteY, ⟨3, 7, false⟩⟩,
   ⟨0x7C, .undoc, .absoluteX, ⟨3, 4, true⟩⟩,
   ⟨0x7F, .undoc, .absoluteX, ⟨3, 7, false⟩⟩,
   ⟨0x80, .undoc, .immediate, ⟨2, 2, false⟩⟩,
   ⟨0x82, .undoc, .immediate, ⟨2, 2, false⟩⟩,
   ⟨0x83, .undoc, .indexedIndirect, ⟨2, 6, false⟩⟩,
   ⟨0x87, .undoc, .zeroPage, ⟨2, 3, false⟩⟩,
   ⟨0x89, .undoc, .immediate, ⟨2, 2, false⟩⟩,
   ⟨0x8B, .undoc, .immediate, ⟨2, 2, false⟩⟩,
   ⟨0x8F, .undoc, .absolute, ⟨3, 4, false⟩⟩]

/-- R107, rows 64 to 84. -/
def undocRows4 : List OpcodeRow :=
  [⟨0x92, .undoc, .implied, ⟨1, 2, false⟩⟩,
   ⟨0x93, .undoc, .indirectIndexed, ⟨2, 6, false⟩⟩,
   ⟨0x97, .undoc, .zeroPageY, ⟨2, 4, false⟩⟩,
   ⟨0x9B, .undoc, .absoluteY, ⟨3, 5, false⟩⟩,
   ⟨0x9C, .undoc, .absoluteX, ⟨3, 5, false⟩⟩,
   ⟨0x9E, .undoc, .absoluteY, ⟨3, 5, false⟩⟩,
   ⟨0x9F, .undoc, .absoluteY, ⟨3, 5, false⟩⟩,
   ⟨0xA3, .undoc, .indexedIndirect, ⟨2, 6, false⟩⟩,
   ⟨0xA7, .undoc, .zeroPage, ⟨2, 3, false⟩⟩,
   ⟨0xAB, .undoc, .immediate, ⟨2, 2, false⟩⟩,
   ⟨0xAF, .undoc, .absolute, ⟨3, 4, false⟩⟩,
   ⟨0xB2, .undoc, .implied, ⟨1, 2, false⟩⟩,
   ⟨0xB3, .undoc, .indirectIndexed, ⟨2, 5, true⟩⟩,
   ⟨0xB7, .undoc, .zeroPageY, ⟨2, 4, false⟩⟩,
   ⟨0xBB, .undoc, .absoluteY, ⟨3, 4, true⟩⟩,
   ⟨0xBF, .undoc, .absoluteY, ⟨3, 4, true⟩⟩,
   ⟨0xC2, .undoc, .immediate, ⟨2, 2, false⟩⟩,
   ⟨0xC3, .undoc, .indexedIndirect, ⟨2, 8, false⟩⟩,
   ⟨0xC7, .undoc, .zeroPage, ⟨2, 5, false⟩⟩,
   ⟨0xCB, .undoc, .immediate, ⟨2, 2, false⟩⟩,
   ⟨0xCF, .undoc, .absolute, ⟨3, 6, false⟩⟩]

/-- R107, rows 85 to 105. -/
def undocRows5 : List OpcodeRow :=
  [⟨0xD2, .undoc, .implied, ⟨1, 2, false⟩⟩,
   ⟨0xD3, .undoc, .indirectIndexed, ⟨2, 8, false⟩⟩,
   ⟨0xD4, .undoc, .zeroPageX, ⟨2, 4, false⟩⟩,
   ⟨0xD7, .undoc, .zeroPageX, ⟨2, 6, false⟩⟩,
   ⟨0xDA, .undoc, .implied, ⟨1, 2, false⟩⟩,
   ⟨0xDB, .undoc, .absoluteY, ⟨3, 7, false⟩⟩,
   ⟨0xDC, .undoc, .absoluteX, ⟨3, 4, true⟩⟩,
   ⟨0xDF, .undoc, .absoluteX, ⟨3, 7, false⟩⟩,
   ⟨0xE2, .undoc, .immediate, ⟨2, 2, false⟩⟩,
   ⟨0xE3, .undoc, .indexedIndirect, ⟨2, 8, false⟩⟩,
   ⟨0xE7, .undoc, .zeroPage, ⟨2, 5, false⟩⟩,
   ⟨0xEB, .undoc, .immediate, ⟨2, 2, false⟩⟩,
   ⟨0xEF, .undoc, .absolute, ⟨3, 6, false⟩⟩,
   ⟨0xF2, .undoc, .implied, ⟨1, 2, false⟩⟩,
   ⟨0xF3, .undoc, .indirectIndexed, ⟨2, 8, false⟩⟩,
   ⟨0xF4, .undoc, .zeroPageX, ⟨2, 4, false⟩⟩,
   ⟨0xF7, .undoc, .zeroPageX, ⟨2, 6, false⟩⟩,
   ⟨0xFA, .undoc, .implied, ⟨1, 2, false⟩⟩,
   ⟨0xFB, .undoc, .absoluteY, ⟨3, 7, false⟩⟩,
   ⟨0xFC, .undoc, .absoluteX, ⟨3, 4, true⟩⟩,
   ⟨0xFF, .undoc, .absoluteX, ⟨3, 7, false⟩⟩]

/-- The address in page `$01` that the stack pointer value `sp` designates (R23). -/
def stackSlot (sp : Byte) : Word := 0x0100 + sp.setWidth 16

/-- The word whose low byte is `lo` (R54). -/
def littleEndian (lo hi : Byte) : Word := BitVec.ofNat 16 (lo.toNat + 256 * hi.toNat)

/-- The processor's registers after `size` bytes and `cycles` cycles and nothing else. -/
def Cpu.past (c : Cpu) (size : Word) (cycles : Nat) : Cpu := { c with pc := c.pc + size, cycles := c.cycles + cycles }

/-- `n` bytes read one after another from address `a` on. -/
def readBytes : Nat → Word → State → List Byte × State
  | 0, _, s => ([], s)
  | n + 1, a, s =>
    let b := memRead a s
    let r := readBytes n (a + 1) b.2
    (b.1 :: r.1, r.2)

/-- Every address of the stack page is plain RAM of its own: reads and writes end at that address of the backing array.
It holds after reset. -/
def plainStack (s : State) : Prop :=
  ∀ sp : Byte, targetOf s.bus.readSlots (stackSlot sp) = ((stackSlot sp).toNat, .ram) ∧
    targetOf s.bus.writeSlots (stackSlot sp) = ((stackSlot sp).toNat, .ram)

/-- The flag a conditional branch tests (R204 to R211), and whether it is taken. -/
def branchTaken (m : Mnemonic) (p : Flags) : Option Bool :=
  match m with
  | .bcc => some (!p.c)
  | .bcs => some p.c
  | .beq => some p.z
  | .bne => some (!p.z)
  | .bmi => some p.n
  | .bpl => some (!p.n)
  | .bvc => some (!p.v)
  | .bvs => some p.v
  | _ => none

/-- `k` calls of `ExecuteInstruction()` in a row. -/
def executeTimes : Nat → State → Result
  | 0, s => .next s
  | k + 1, s =>
    match executeInstruction s with
    | .next t => executeTimes k t
    | .fault r => .fault r
    | .refused r => .refused r

/-- `f` applied `k` times. -/
def repeatFun {α : Type} (f : α → α) : Nat → α → α
  | 0, x => x
  | k + 1, x => repeatFun f k (f x)

end Sys2Proof.Machine

open Sys2Proof Sys2Proof.Machine

/-! ### Loads, stores, transfers, stack -/

/-- R130, R131, R132: `LDA`, `LDX` and `LDY` complete in every state and every form; the register takes the operand, `Z`
and `N` follow it. -/
def Obligations.LoadResults : Prop :=
  tableRowsOf .lda =
      [⟨0xA1, .lda, .indexedIndirect, ⟨2, 6, false⟩⟩, ⟨0xA5, .lda, .zeroPage, ⟨2, 3, false⟩⟩,
       ⟨0xA9, .lda, .immediate, ⟨2, 2, false⟩⟩, ⟨0xAD, .lda, .absolute, ⟨3, 4, false⟩⟩,
       ⟨0xB1, .lda, .indirectIndexed, ⟨2, 5, true⟩⟩, ⟨0xB5, .lda, .zeroPageX, ⟨2, 4, false⟩⟩,
       ⟨0xB9, .lda, .absoluteY, ⟨3, 4, true⟩⟩, ⟨0xBD, .lda, .absoluteX, ⟨3, 4, true⟩⟩] ∧
  tableRowsOf .ldx =
      [⟨0xA2, .ldx, .immediate, ⟨2, 2, false⟩⟩, ⟨0xA6, .ldx, .zeroPage, ⟨2, 3, false⟩⟩,
       ⟨0xAE, .ldx, .absolute, ⟨3, 4, false⟩⟩, ⟨0xB6, .ldx, .zeroPageY, ⟨2, 4, false⟩⟩,
       ⟨0xBE, .ldx, .absoluteY, ⟨3, 4, true⟩⟩] ∧
  tableRowsOf .ldy =
      [⟨0xA0, .ldy, .immediate, ⟨2, 2, false⟩⟩, ⟨0xA4, .ldy, .zeroPage, ⟨2, 3, false⟩⟩,
       ⟨0xAC, .ldy, .absolute, ⟨3, 4, false⟩⟩, ⟨0xB4, .ldy, .zeroPageX, ⟨2, 4, false⟩⟩,
       ⟨0xBC, .ldy, .absoluteX, ⟨3, 4, true⟩⟩] ∧
  ∀ (i : Instr) (s : State),
    let p := prepare i.operand i.timing s
    let m := readOperand i.operand p.1 p.2
    let c := m.2.cpu
    let f : Flags := { c.p with z := decide (m.1 = 0), n := m.1.getLsbD 7 }
    (i.mnemonic = .lda → exec i s = .next { m.2 with cpu := { c with a := m.1, p := f } }) ∧
    (i.mnemonic = .ldx → exec i s = .next { m.2 with cpu := { c with x := m.1, p := f } }) ∧
    (i.mnemonic = .ldy → exec i s = .next { m.2 with cpu := { c with y := m.1, p := f } })

/-- R133, R134, R135: `STA`, `STX` and `STY` complete in every state and every form: one write of the register at the
effective address, no read there, no flag. -/
def Obligations.StoreResults : Prop :=
  tableRowsOf .sta =
      [⟨0x81, .sta, .indexedIndirect, ⟨2, 6, false⟩⟩, ⟨0x85, .sta, .zeroPage, ⟨2, 3, false⟩⟩,
       ⟨0x8D, .sta, .absolute, ⟨3, 4, false⟩⟩, ⟨0x91, .sta, .indirectIndexed, ⟨2, 6, false⟩⟩,
       ⟨0x95, .sta, .zeroPageX, ⟨2, 4, false⟩⟩, ⟨0x99, .sta, .absoluteY, ⟨3, 5, false⟩⟩,
       ⟨0x9D, .sta, .absoluteX, ⟨3, 5, false⟩⟩] ∧
  tableRowsOf .stx =
      [⟨0x86, .stx, .zeroPage, ⟨2, 3, false⟩⟩, ⟨0x8E, .stx, .absolute, ⟨3, 4, false⟩⟩,
       ⟨0x96, .stx, .zeroPageY, ⟨2, 4, false⟩⟩] ∧
  tableRowsOf .sty =
      [⟨0x84, .sty, .zeroPage, ⟨2, 3, false⟩⟩, ⟨0x8C, .sty, .absolute, ⟨3, 4, false⟩⟩,
       ⟨0x94, .sty, .zeroPageX, ⟨2, 4, false⟩⟩] ∧
  ∀ (i : Instr) (s : State),
    let p := prepare i.operand i.timing s
    (i.mnemonic = .sta → exec i s = .next (memWrite p.1 s.cpu.a p.2)) ∧
    (i.mnemonic = .stx → exec i s = .next (memWrite p.1 s.cpu.x p.2)) ∧
    (i.mnemonic = .sty → exec i s = .next (memWrite p.1 s.cpu.y p.2))

/-- R140 to R145, R166, R167, R169, R170: the transfers and the register increments and decrements (modulo 256) complete
in every state, with nothing but the register, `Z` and `N` changed; `TXS` changes no flag. -/
def Obligations.RegisterInstructionResults : Prop :=
  tableRowsOf .tax =
      [⟨0xAA, .tax, .implied, ⟨1, 2, false⟩⟩] ∧
  tableRowsOf .tay =
      [⟨0xA8, .tay, .implied, ⟨1, 2, false⟩⟩] ∧
  tableRowsOf .txa =
      [⟨0x8A, .txa, .implied, ⟨1, 2, false⟩⟩] ∧
  tableRowsOf .tya =
      [⟨0x98, .tya, .implied, ⟨1, 2, false⟩⟩] ∧
  tableRowsOf .tsx =
      [⟨0xBA, .tsx, .implied, ⟨1, 2, false⟩⟩] ∧
  tableRowsOf .txs =
      [⟨0x9A, .txs, .implied, ⟨1, 2, false⟩⟩] ∧
  tableRowsOf .inx =
      [⟨0xE8, .inx, .implied, ⟨1, 2, false⟩⟩] ∧
  tableRowsOf .iny =
      [⟨0xC8, .iny, .implied, ⟨1, 2, false⟩⟩] ∧
  tableRowsOf .dex =
      [⟨0xCA, .dex, .implied, ⟨1, 2, false⟩⟩] ∧
  tableRowsOf .dey =
      [⟨0x88, .dey, .implied, ⟨1, 2, false⟩⟩] ∧
  ∀ s : State,
    let c := s.cpu.past 1 2
    let zn (v : Byte) : Flags := { s.cpu.p with z := decide (v = 0), n := v.getLsbD 7 }
    (exec .tax s = .next { s with cpu := { c with x := s.cpu.a, p := zn s.cpu.a } }) ∧
    (exec .tay s = .next { s with cpu := { c with y := s.cpu.a, p := zn s.cpu.a } }) ∧
    (exec .txa s = .next { s with cpu := { c with a := s.cpu.x, p := zn s.cpu.x } }) ∧
    (exec .tya s = .next { s with cpu := { c with a := s.cpu.y, p := zn s.cpu.y } }) ∧
    (exec .tsx s = .next { s with cpu := { c with x := s.cpu.sp, p := zn s.cpu.sp } }) ∧
    (exec .inx s = .next { s with cpu := { c with x := s.cpu.x + 1, p := zn (s.cpu.x + 1) } }) ∧
    (exec .iny s = .next { s with cpu := { c with y := s.cpu.y + 1, p := zn (s.cpu.y + 1) } }) ∧
    (exec .dex s = .next { s with cpu := { c with x := s.cpu.x - 1, p := zn (s.cpu.x - 1) } }) ∧
    (exec .dey s = .next { s with cpu := { c with y := s.cpu.y - 1, p := zn (s.cpu.y - 1) } }) ∧
    (exec .txs s = .next { s with cpu := { c with sp := s.cpu.x } })

/-- R146, R147: `PHA` and `PHP` complete in every state: one write at `0x0100 + SP`, then `SP` decrements modulo 256; the
pushed status has bits 4 and 5 set (R31). -/
def Obligations.PushResults : Prop :=
  tableRowsOf .pha =
      [⟨0x48, .pha, .implied, ⟨1, 3, false⟩⟩] ∧
  tableRowsOf .php =
      [⟨0x08, .php, .implied, ⟨1, 3, false⟩⟩] ∧
  ∀ s : State,
    let n := { s with cpu := s.cpu.past 1 3 }
    let f := s.cpu.p
    let status : Byte := BitVec.ofNat 8 (f.c.toNat + 2 * f.z.toNat + 4 * f.i.toNat + 8 * f.d.toNat + 16 + 32
      + 64 * f.v.toNat + 128 * f.n.toNat)
    (exec .pha s = .next { memWrite (stackSlot s.cpu.sp) s.cpu.a n with
      cpu := { s.cpu.past 1 3 with sp := s.cpu.sp - 1 } }) ∧
    (exec .php s = .next { memWrite (stackSlot s.cpu.sp) status n with
      cpu := { s.cpu.past 1 3 with sp := s.cpu.sp - 1 } })

/-- R148, R149: `PLA` and `PLP` complete in every state: `SP` increments modulo 256, then one read at `0x0100 + SP`; bits
4 and 5 of a pulled status byte are ignored (R32). -/
def Obligations.PullResults : Prop :=
  tableRowsOf .pla =
      [⟨0x68, .pla, .implied, ⟨1, 4, false⟩⟩] ∧
  tableRowsOf .plp =
      [⟨0x28, .plp, .implied, ⟨1, 4, false⟩⟩] ∧
  ∀ s : State,
    let c : Cpu := { s.cpu.past 1 4 with sp := s.cpu.sp + 1 }
    let r := memRead (stackSlot (s.cpu.sp + 1)) { s with cpu := c }
    (exec .pla s = .next { r.2 with cpu := { c with
      a := r.1, p := { s.cpu.p with z := decide (r.1 = 0), n := r.1.getLsbD 7 } } }) ∧
    (exec .plp s = .next { r.2 with cpu := { c with
      p := ⟨r.1.getLsbD 0, r.1.getLsbD 1, r.1.getLsbD 2, r.1.getLsbD 3, r.1.getLsbD 6, r.1.getLsbD 7⟩ } })

/-! ### Arithmetic, logic, shifts -/

/-- R160: `ADC` completes in every state and every form, with the binary sum whatever `D` holds. -/
def Obligations.AdcResult : Prop :=
  tableRowsOf .adc =
      [⟨0x61, .adc, .indexedIndirect, ⟨2, 6, false⟩⟩, ⟨0x65, .adc, .zeroPage, ⟨2, 3, false⟩⟩,
       ⟨0x69, .adc, .immediate, ⟨2, 2, false⟩⟩, ⟨0x6D, .adc, .absolute, ⟨3, 4, false⟩⟩,
       ⟨0x71, .adc, .indirectIndexed, ⟨2, 5, true⟩⟩, ⟨0x75, .adc, .zeroPageX, ⟨2, 4, false⟩⟩,
       ⟨0x79, .adc, .absoluteY, ⟨3, 4, true⟩⟩, ⟨0x7D, .adc, .absoluteX, ⟨3, 4, true⟩⟩] ∧
  ∀ (i : Instr) (s : State), i.mnemonic = .adc →
    let p := prepare i.operand i.timing s
    let m := readOperand i.operand p.1 p.2
    let c := m.2.cpu
    let t := c.a.toNat + m.1.toNat + c.p.c.toNat
    let r : Byte := BitVec.ofNat 8 (t % 256)
    exec i s = .next { m.2 with cpu := { c with
      a := r
      p := { c.p with
        c := decide (t > 255)
        z := decide (t % 256 = 0)
        v := decide (c.a.getLsbD 7 = m.1.getLsbD 7 ∧ r.getLsbD 7 ≠ c.a.getLsbD 7)
        n := r.getLsbD 7 } } }

/-- R161: `SBC` completes in every state and every form; and its result and flags are those of `ADC` of the operand's
complement. -/
def Obligations.SbcResult : Prop :=
  tableRowsOf .sbc =
      [⟨0xE1, .sbc, .indexedIndirect, ⟨2, 6, false⟩⟩, ⟨0xE5, .sbc, .zeroPage, ⟨2, 3, false⟩⟩,
       ⟨0xE9, .sbc, .immediate, ⟨2, 2, false⟩⟩, ⟨0xED, .sbc, .absolute, ⟨3, 4, false⟩⟩,
       ⟨0xF1, .sbc, .indirectIndexed, ⟨2, 5, true⟩⟩, ⟨0xF5, .sbc, .zeroPageX, ⟨2, 4, false⟩⟩,
       ⟨0xF9, .sbc, .absoluteY, ⟨3, 4, true⟩⟩, ⟨0xFD, .sbc, .absoluteX, ⟨3, 4, true⟩⟩] ∧
  (∀ (m : Byte) (c : Cpu), sbcCpu m c = adcCpu (m ^^^ 0xFF) c) ∧
  ∀ (i : Instr) (s : State), i.mnemonic = .sbc →
    let p := prepare i.operand i.timing s
    let m := readOperand i.operand p.1 p.2
    let c := m.2.cpu
    let t : Int := (c.a.toNat : Int) - m.1.toNat - (1 - c.p.c.toNat)
    let r : Byte := BitVec.ofNat 8 (t % 256).toNat
    exec i s = .next { m.2 with cpu := { c with
      a := r
      p := { c.p with
        c := decide (0 ≤ t)
        z := decide (t % 256 = 0)
        v := decide (c.a.getLsbD 7 ≠ m.1.getLsbD 7 ∧ r.getLsbD 7 ≠ c.a.getLsbD 7)
        n := r.getLsbD 7 } } }

/-- R162, R163, R164: the compares complete in every state and every form and write `C`, `Z` and `N` only. -/
def Obligations.CompareResults : Prop :=
  tableRowsOf .cmp =
      [⟨0xC1, .cmp, .indexedIndirect, ⟨2, 6, false⟩⟩, ⟨0xC5, .cmp, .zeroPage, ⟨2, 3, false⟩⟩,
       ⟨0xC9, .cmp, .immediate, ⟨2, 2, false⟩⟩, ⟨0xCD, .cmp, .absolute, ⟨3, 4, false⟩⟩,
       ⟨0xD1, .cmp, .indirectIndexed, ⟨2, 5, true⟩⟩, ⟨0xD5, .cmp, .zeroPageX, ⟨2, 4, false⟩⟩,
       ⟨0xD9, .cmp, .absoluteY, ⟨3, 4, true⟩⟩, ⟨0xDD, .cmp, .absoluteX, ⟨3, 4, true⟩⟩] ∧
  tableRowsOf .cpx =
      [⟨0xE0, .cpx, .immediate, ⟨2, 2, false⟩⟩, ⟨0xE4, .cpx, .zeroPage, ⟨2, 3, false⟩⟩,
       ⟨0xEC, .cpx, .absolute, ⟨3, 4, false⟩⟩] ∧
  tableRowsOf .cpy =
      [⟨0xC0, .cpy, .immediate, ⟨2, 2, false⟩⟩, ⟨0xC4, .cpy, .zeroPage, ⟨2, 3, false⟩⟩,
       ⟨0xCC, .cpy, .absolute, ⟨3, 4, false⟩⟩] ∧
  ∀ (i : Instr) (s : State),
    let p := prepare i.operand i.timing s
    let m := readOperand i.operand p.1 p.2
    let c := m.2.cpu
    let after (r : Byte) : State := { m.2 with cpu := { c with p := { c.p with
      c := decide (m.1.toNat ≤ r.toNat), z := decide (r = m.1), n := (r - m.1).getLsbD 7 } } }
    (i.mnemonic = .cmp → exec i s = .next (after c.a)) ∧
    (i.mnemonic = .cpx → exec i s = .next (after c.x)) ∧
    (i.mnemonic = .cpy → exec i s = .next (after c.y))

/-- R165, R168: `INC` and `DEC` complete in every state and every form: one read and one write at the effective address,
`Z` and `N` from the byte written. -/
def Obligations.IncDecMemoryResults : Prop :=
  tableRowsOf .inc =
      [⟨0xE6, .inc, .zeroPage, ⟨2, 5, false⟩⟩, ⟨0xEE, .inc, .absolute, ⟨3, 6, false⟩⟩,
       ⟨0xF6, .inc, .zeroPageX, ⟨2, 6, false⟩⟩, ⟨0xFE, .inc, .absoluteX, ⟨3, 7, false⟩⟩] ∧
  tableRowsOf .dec =
      [⟨0xC6, .dec, .zeroPage, ⟨2, 5, false⟩⟩, ⟨0xCE, .dec, .absolute, ⟨3, 6, false⟩⟩,
       ⟨0xD6, .dec, .zeroPageX, ⟨2, 6, false⟩⟩, ⟨0xDE, .dec, .absoluteX, ⟨3, 7, false⟩⟩] ∧
  ∀ (i : Instr) (s : State),
    let p := prepare i.operand i.timing s
    let m := memRead p.1 p.2
    let after (v : Byte) : State := { memWrite p.1 v m.2 with
      cpu := { p.2.cpu with p := { s.cpu.p with z := decide (v = 0), n := v.getLsbD 7 } } }
    (i.mnemonic = .inc → exec i s = .next (after (BitVec.ofNat 8 ((m.1.toNat + 1) % 256)))) ∧
    (i.mnemonic = .dec → exec i s = .next (after (BitVec.ofNat 8 ((m.1.toNat + 255) % 256))))

/-- R180 to R183: `AND`, `ORA`, `EOR` and `BIT` complete in every state and every form; `Z` and `N` follow the result, but
`BIT` takes `N` and `V` from the operand itself and leaves `A`. -/
def Obligations.LogicResults : Prop :=
  tableRowsOf .and =
      [⟨0x21, .and, .indexedIndirect, ⟨2, 6, false⟩⟩, ⟨0x25, .and, .zeroPage, ⟨2, 3, false⟩⟩,
       ⟨0x29, .and, .immediate, ⟨2, 2, false⟩⟩, ⟨0x2D, .and, .absolute, ⟨3, 4, false⟩⟩,
       ⟨0x31, .and, .indirectIndexed, ⟨2, 5, true⟩⟩, ⟨0x35, .and, .zeroPageX, ⟨2, 4, false⟩⟩,
       ⟨0x39, .and, .absoluteY, ⟨3, 4, true⟩⟩, ⟨0x3D, .and, .absoluteX, ⟨3, 4, true⟩⟩] ∧
  tableRowsOf .ora =
      [⟨0x01, .ora, .indexedIndirect, ⟨2, 6, false⟩⟩, ⟨0x05, .ora, .zeroPage, ⟨2, 3, false⟩⟩,
       ⟨0x09, .ora, .immediate, ⟨2, 2, false⟩⟩, ⟨0x0D, .ora, .absolute, ⟨3, 4, false⟩⟩,
       ⟨0x11, .ora, .indirectIndexed, ⟨2, 5, true⟩⟩, ⟨0x15, .ora, .zeroPageX, ⟨2, 4, false⟩⟩,
       ⟨0x19, .ora, .absoluteY, ⟨3, 4, true⟩⟩, ⟨0x1D, .ora, .absoluteX, ⟨3, 4, true⟩⟩] ∧
  tableRowsOf .eor =
      [⟨0x41, .eor, .indexedIndirect, ⟨2, 6, false⟩⟩, ⟨0x45, .eor, .zeroPage, ⟨2, 3, false⟩⟩,
       ⟨0x49, .eor, .immediate, ⟨2, 2, false⟩⟩, ⟨0x4D, .eor, .absolute, ⟨3, 4, false⟩⟩,
       ⟨0x51, .eor, .indirectIndexed, ⟨2, 5, true⟩⟩, ⟨0x55, .eor, .zeroPageX, ⟨2, 4, false⟩⟩,
       ⟨0x59, .eor, .absoluteY, ⟨3, 4, true⟩⟩, ⟨0x5D, .eor, .absoluteX, ⟨3, 4, true⟩⟩] ∧
  tableRowsOf .bit =
      [⟨0x24, .bit, .zeroPage, ⟨2, 3, false⟩⟩, ⟨0x2C, .bit, .absolute, ⟨3, 4, false⟩⟩] ∧
  ∀ (i : Instr) (s : State),
    let p := prepare i.operand i.timing s
    let m := readOperand i.operand p.1 p.2
    let c := m.2.cpu
    let after (v : Byte) : State := { m.2 with cpu := { c with
      a := v, p := { c.p with z := decide (v = 0), n := v.getLsbD 7 } } }
    (i.mnemonic = .and → exec i s = .next (after (c.a &&& m.1))) ∧
    (i.mnemonic = .ora → exec i s = .next (after (c.a ||| m.1))) ∧
    (i.mnemonic = .eor → exec i s = .next (after (c.a ^^^ m.1))) ∧
    (i.mnemonic = .bit → exec i s = .next { m.2 with cpu := { c with p := { c.p with
      z := decide (c.a &&& m.1 = 0), n := m.1.getLsbD 7, v := m.1.getLsbD 6 } } })

/-- R184, R185: `ASL` and `LSR` complete in every state and every form: on `A`, or one read and one write at the effective
address. -/
def Obligations.ShiftResults : Prop :=
  tableRowsOf .asl =
      [⟨0x06, .asl, .zeroPage, ⟨2, 5, false⟩⟩, ⟨0x0A, .asl, .accumulator, ⟨1, 2, false⟩⟩,
       ⟨0x0E, .asl, .absolute, ⟨3, 6, false⟩⟩, ⟨0x16, .asl, .zeroPageX, ⟨2, 6, false⟩⟩,
       ⟨0x1E, .asl, .absoluteX, ⟨3, 7, false⟩⟩] ∧
  tableRowsOf .lsr =
      [⟨0x46, .lsr, .zeroPage, ⟨2, 5, false⟩⟩, ⟨0x4A, .lsr, .accumulator, ⟨1, 2, false⟩⟩,
       ⟨0x4E, .lsr, .absolute, ⟨3, 6, false⟩⟩, ⟨0x56, .lsr, .zeroPageX, ⟨2, 6, false⟩⟩,
       ⟨0x5E, .lsr, .absoluteX, ⟨3, 7, false⟩⟩] ∧
  ∀ (i : Instr) (s : State),
    let p := prepare i.operand i.timing s
    let m := memRead p.1 p.2
    let onA (r : Byte) (carry : Bool) : State := { s with cpu := { s.cpu.past 1 2 with
      a := r, p := { s.cpu.p with c := carry, z := decide (r = 0), n := r.getLsbD 7 } } }
    let onMemory (r : Byte) (carry : Bool) : State := { memWrite p.1 r m.2 with cpu := { p.2.cpu with
      p := { s.cpu.p with c := carry, z := decide (r = 0), n := r.getLsbD 7 } } }
    let left (v : Byte) : Byte := BitVec.ofNat 8 (v.toNat * 2 % 256)
    let right (v : Byte) : Byte := BitVec.ofNat 8 (v.toNat / 2)
    (i.mnemonic = .asl → i.operand = .accumulator → exec i s = .next (onA (left s.cpu.a) (s.cpu.a.getLsbD 7))) ∧
    (i.mnemonic = .asl → i.operand ≠ .accumulator → exec i s = .next (onMemory (left m.1) (m.1.getLsbD 7))) ∧
    (i.mnemonic = .lsr → i.operand = .accumulator → exec i s = .next (onA (right s.cpu.a) (s.cpu.a.getLsbD 0))) ∧
    (i.mnemonic = .lsr → i.operand ≠ .accumulator → exec i s = .next (onMemory (right m.1) (m.1.getLsbD 0)))

/-- R186, R187: `ROL` and `ROR` complete in every state and every form: 9-bit rotations through the carry, which nine
applications restore. -/
def Obligations.RotateResults : Prop :=
  tableRowsOf .rol =
      [⟨0x26, .rol, .zeroPage, ⟨2, 5, false⟩⟩, ⟨0x2A, .rol, .accumulator, ⟨1, 2, false⟩⟩,
       ⟨0x2E, .rol, .absolute, ⟨3, 6, false⟩⟩, ⟨0x36, .rol, .zeroPageX, ⟨2, 6, false⟩⟩,
       ⟨0x3E, .rol, .absoluteX, ⟨3, 7, false⟩⟩] ∧
  tableRowsOf .ror =
      [⟨0x66, .ror, .zeroPage, ⟨2, 5, false⟩⟩, ⟨0x6A, .ror, .accumulator, ⟨1, 2, false⟩⟩,
       ⟨0x6E, .ror, .absolute, ⟨3, 6, false⟩⟩, ⟨0x76, .ror, .zeroPageX, ⟨2, 6, false⟩⟩,
       ⟨0x7E, .ror, .absoluteX, ⟨3, 7, false⟩⟩] ∧
  (∀ (v : Byte) (p : Flags), (repeatFun (fun x => rolByte x.1 x.2) 9 (v, p)).1 = v ∧
    (repeatFun (fun x => rolByte x.1 x.2) 9 (v, p)).2.c = p.c ∧
    (repeatFun (fun x => rorByte x.1 x.2) 9 (v, p)).1 = v ∧
    (repeatFun (fun x => rorByte x.1 x.2) 9 (v, p)).2.c = p.c) ∧
  ∀ (i : Instr) (s : State),
    let p := prepare i.operand i.timing s
    let m := memRead p.1 p.2
    let k := s.cpu.p.c.toNat
    let onA (r : Byte) (carry : Bool) : State := { s with cpu := { s.cpu.past 1 2 with
      a := r, p := { s.cpu.p with c := carry, z := decide (r = 0), n := r.getLsbD 7 } } }
    let onMemory (r : Byte) (carry : Bool) : State := { memWrite p.1 r m.2 with cpu := { p.2.cpu with
      p := { s.cpu.p with c := carry, z := decide (r = 0), n := r.getLsbD 7 } } }
    let left (v : Byte) : Byte := BitVec.ofNat 8 (v.toNat * 2 % 256 + k)
    let right (v : Byte) : Byte := BitVec.ofNat 8 (v.toNat / 2 + 128 * k)
    (i.mnemonic = .rol → i.operand = .accumulator → exec i s = .next (onA (left s.cpu.a) (s.cpu.a.getLsbD 7))) ∧
    (i.mnemonic = .rol → i.operand ≠ .accumulator → exec i s = .next (onMemory (left m.1) (m.1.getLsbD 7))) ∧
    (i.mnemonic = .ror → i.operand = .accumulator → exec i s = .next (onA (right s.cpu.a) (s.cpu.a.getLsbD 0))) ∧
    (i.mnemonic = .ror → i.operand ≠ .accumulator → exec i s = .next (onMemory (right m.1) (m.1.getLsbD 0)))

/-! ### Control flow, flags, no-operations -/

/-- R200: `JMP` completes in every state; the indirect form takes its target from `ptr` and the next byte of the same
page (R55). -/
def Obligations.JmpResult : Prop :=
  tableRowsOf .jmp =
      [⟨0x4C, .jmp, .absolute, ⟨3, 3, false⟩⟩, ⟨0x6C, .jmp, .indirect, ⟨3, 5, false⟩⟩] ∧
  ∀ (a : Word) (s : State),
    (exec (.jmpAbs a) s = .next { s with cpu := { s.cpu.past 3 3 with pc := a } }) ∧
    let lo := memRead a s
    let hi := memRead (BitVec.ofNat 16 (256 * (a.toNat / 256) + (a.toNat % 256 + 1) % 256)) lo.2
    exec (.jmpInd a) s = .next { hi.2 with cpu := { s.cpu.past 3 5 with pc := littleEndian lo.1 hi.1 } }

/-- R201, R202: `JSR` and `RTS` complete in every state: `JSR` pushes the address of its last byte, high byte first, and
jumps; `RTS` pulls a word, low byte first, and goes to the address after it. -/
def Obligations.SubroutineResults : Prop :=
  tableRowsOf .jsr =
      [⟨0x20, .jsr, .absolute, ⟨3, 6, false⟩⟩] ∧
  tableRowsOf .rts =
      [⟨0x60, .rts, .implied, ⟨1, 6, false⟩⟩] ∧
  ∀ (a : Word) (s : State),
    let c := s.cpu.past 3 6
    let last := s.cpu.pc + 2
    let w := memWrite (stackSlot s.cpu.sp) (BitVec.ofNat 8 (last.toNat / 256)) { s with cpu := c }
    let d := s.cpu.past 1 6
    let lo := memRead (stackSlot (s.cpu.sp + 1)) { s with cpu := { d with sp := s.cpu.sp + 1 } }
    let hi := memRead (stackSlot (s.cpu.sp + 1 + 1)) { lo.2 with cpu := { d with sp := s.cpu.sp + 1 + 1 } }
    (exec (.jsrAbs a) s = .next { memWrite (stackSlot (s.cpu.sp - 1)) (BitVec.ofNat 8 (last.toNat % 256))
        { w with cpu := { c with sp := s.cpu.sp - 1 } } with
      cpu := { c with sp := s.cpu.sp - 1 - 1, pc := a } }) ∧
    (exec .rts s = .next { hi.2 with cpu := { d with
      sp := s.cpu.sp + 1 + 1, pc := littleEndian lo.1 hi.1 + 1 } })

/-- R203 to R211: the eight branches complete in every state: 2 cycles not taken, 3 taken, 4 taken to another page than
that of the next instruction; nothing but `PC` and `cycles` changes. -/
def Obligations.BranchResults : Prop :=
  tableRowsOf .bcc =
      [⟨0x90, .bcc, .relative, ⟨2, 2, false⟩⟩] ∧
  tableRowsOf .bcs =
      [⟨0xB0, .bcs, .relative, ⟨2, 2, false⟩⟩] ∧
  tableRowsOf .beq =
      [⟨0xF0, .beq, .relative, ⟨2, 2, false⟩⟩] ∧
  tableRowsOf .bne =
      [⟨0xD0, .bne, .relative, ⟨2, 2, false⟩⟩] ∧
  tableRowsOf .bmi =
      [⟨0x30, .bmi, .relative, ⟨2, 2, false⟩⟩] ∧
  tableRowsOf .bpl =
      [⟨0x10, .bpl, .relative, ⟨2, 2, false⟩⟩] ∧
  tableRowsOf .bvc =
      [⟨0x50, .bvc, .relative, ⟨2, 2, false⟩⟩] ∧
  tableRowsOf .bvs =
      [⟨0x70, .bvs, .relative, ⟨2, 2, false⟩⟩] ∧
  ∀ (i : Instr) (off : Byte) (taken : Bool) (s : State), i.operand = .relative off →
    branchTaken i.mnemonic s.cpu.p = some taken →
    let next := s.cpu.pc + 2
    let ea := next + BitVec.ofNat 16 (if off.toNat < 128 then off.toNat else off.toNat + 0xFF00)
    exec i s = .next { s with cpu := { s.cpu with
      pc := if taken then ea else next
      cycles := s.cpu.cycles +
        (if taken then (if next.toNat / 256 = ea.toNat / 256 then 3 else 4) else 2) } }

/-- R212: `BRK` completes in every state: it pushes the address of its opcode plus 2 and the status with bits 4 and 5
set, sets `I`, and goes to the address in the IRQ vector. -/
def Obligations.BrkResult : Prop :=
  tableRowsOf .brk =
      [⟨0x00, .brk, .implied, ⟨2, 7, false⟩⟩] ∧
  ∀ s : State,
    let c := s.cpu.past 2 7
    let sp := s.cpu.sp
    let ret := s.cpu.pc + 2
    let f := s.cpu.p
    let status : Byte := BitVec.ofNat 8 (f.c.toNat + 2 * f.z.toNat + 4 * f.i.toNat + 8 * f.d.toNat + 16 + 32
      + 64 * f.v.toNat + 128 * f.n.toNat)
    let w1 := memWrite (stackSlot sp) (BitVec.ofNat 8 (ret.toNat / 256)) { s with cpu := c }
    let w2 := memWrite (stackSlot (sp - 1)) (BitVec.ofNat 8 (ret.toNat % 256))
      { w1 with cpu := { c with sp := sp - 1 } }
    let w3 := memWrite (stackSlot (sp - 1 - 1)) status { w2 with cpu := { c with sp := sp - 1 - 1 } }
    let c3 : Cpu := { c with sp := sp - 1 - 1 - 1, p := { f with i := true } }
    let lo := memRead 0xFFFE { w3 with cpu := c3 }
    let hi := memRead 0xFFFF lo.2
    exec .brk s = .next { hi.2 with cpu := { c3 with pc := littleEndian lo.1 hi.1 } }

/-- R213: `RTI` completes in every state: it pulls the status byte, whose bits 4 and 5 it ignores, then `PC`, with no
addition. -/
def Obligations.RtiResult : Prop :=
  tableRowsOf .rti =
      [⟨0x40, .rti, .implied, ⟨1, 6, false⟩⟩] ∧
  ∀ s : State,
    let c := s.cpu.past 1 6
    let sp := s.cpu.sp
    let st := memRead (stackSlot (sp + 1)) { s with cpu := { c with sp := sp + 1 } }
    let f : Flags := ⟨st.1.getLsbD 0, st.1.getLsbD 1, st.1.getLsbD 2, st.1.getLsbD 3, st.1.getLsbD 6, st.1.getLsbD 7⟩
    let lo := memRead (stackSlot (sp + 1 + 1)) { st.2 with cpu := { c with sp := sp + 1 + 1, p := f } }
    let hi := memRead (stackSlot (sp + 1 + 1 + 1)) { lo.2 with cpu := { c with sp := sp + 1 + 1 + 1, p := f } }
    exec .rti s = .next { hi.2 with cpu := { c with
      sp := sp + 1 + 1 + 1, p := f, pc := littleEndian lo.1 hi.1 } }

/-- R230 to R237: the flag instructions and `NOP` complete in every state and change nothing but the one flag. -/
def Obligations.FlagResults : Prop :=
  tableRowsOf .clc =
      [⟨0x18, .clc, .implied, ⟨1, 2, false⟩⟩] ∧
  tableRowsOf .sec =
      [⟨0x38, .sec, .implied, ⟨1, 2, false⟩⟩] ∧
  tableRowsOf .cli =
      [⟨0x58, .cli, .implied, ⟨1, 2, false⟩⟩] ∧
  tableRowsOf .sei =
      [⟨0x78, .sei, .implied, ⟨1, 2, false⟩⟩] ∧
  tableRowsOf .clv =
      [⟨0xB8, .clv, .implied, ⟨1, 2, false⟩⟩] ∧
  tableRowsOf .cld =
      [⟨0xD8, .cld, .implied, ⟨1, 2, false⟩⟩] ∧
  tableRowsOf .sed =
      [⟨0xF8, .sed, .implied, ⟨1, 2, false⟩⟩] ∧
  tableRowsOf .nop =
      [⟨0xEA, .nop, .implied, ⟨1, 2, false⟩⟩] ∧
  ∀ s : State,
    let after (f : Flags) : State := { s with cpu := { s.cpu.past 1 2 with p := f } }
    (exec .clc s = .next (after { s.cpu.p with c := false })) ∧
    (exec .sec s = .next (after { s.cpu.p with c := true })) ∧
    (exec .cli s = .next (after { s.cpu.p with i := false })) ∧
    (exec .sei s = .next (after { s.cpu.p with i := true })) ∧
    (exec .clv s = .next (after { s.cpu.p with v := false })) ∧
    (exec .cld s = .next (after { s.cpu.p with d := false })) ∧
    (exec .sed s = .next (after { s.cpu.p with d := true })) ∧
    (exec .nop s = .next (after s.cpu.p))

/-- R238 with R107: each of the 105 undocumented opcodes completes in every state: after the operand's resolution, the
advance of `PC` and the cycle accounting nothing happens; no register, flag or byte of the backing array changes. -/
def Obligations.UndocResult : Prop :=
  tableRowsOf .undoc = undocRows1 ++ undocRows2 ++ undocRows3 ++ undocRows4 ++ undocRows5 ∧
  ∀ (i : Instr) (s : State), i.mnemonic = .undoc →
    let r := resolve i.operand s
    exec i s = .next { r.2 with cpu := { s.cpu with
      pc := s.cpu.pc + BitVec.ofNat 16 i.timing.size
      cycles := s.cpu.cycles + i.timing.cycles + (if i.timing.penalty = true ∧ r.1.crossed = true then 1 else 0) } } ∧
    r.2.bus.backing = s.bus.backing

/-! ### Operands, the stack, the status byte -/

/-- R92 to R104: the effective address of every addressing mode, its page crossing, and the state after the pointer
reads. The implied and accumulator modes have no effective address. -/
def Obligations.EffectiveAddresses : Prop :=
  ∀ (s : State) (z : Byte) (a : Word),
    let pc := s.cpu.pc
    let x := s.cpu.x.toNat
    let y := s.cpu.y.toNat
    let page (w : Nat) : Nat := w / 256
    let inPage (w : Word) : Word := BitVec.ofNat 16 (256 * (w.toNat / 256) + (w.toNat % 256 + 1) % 256)
    let pointer (p : Word) : Word × State :=
      let lo := memRead p s
      let hi := memRead (inPage p) lo.2
      (littleEndian lo.1 hi.1, hi.2)
    let plus (base : Word) (index : Nat) : Resolved :=
      ⟨BitVec.ofNat 16 ((base.toNat + index) % 65536),
        decide (page base.toNat ≠ page ((base.toNat + index) % 65536))⟩
    (resolve .implied s).1.crossed = false ∧ (resolve .implied s).2 = s ∧
    (resolve .accumulator s).1.crossed = false ∧ (resolve .accumulator s).2 = s ∧
    resolve (.immediate z) s = (⟨pc + 1, false⟩, s) ∧
    resolve (.zeroPage z) s = (⟨BitVec.ofNat 16 z.toNat, false⟩, s) ∧
    resolve (.zeroPageX z) s = (⟨BitVec.ofNat 16 ((z.toNat + x) % 256), false⟩, s) ∧
    resolve (.zeroPageY z) s = (⟨BitVec.ofNat 16 ((z.toNat + y) % 256), false⟩, s) ∧
    resolve (.absolute a) s = (⟨a, false⟩, s) ∧
    resolve (.absoluteX a) s = (plus a x, s) ∧
    resolve (.absoluteY a) s = (plus a y, s) ∧
    resolve (.indirect a) s = (⟨(pointer a).1, false⟩, (pointer a).2) ∧
    resolve (.indexedIndirect z) s =
      (let q := pointer (BitVec.ofNat 16 ((z.toNat + x) % 256))
       (⟨q.1, false⟩, q.2)) ∧
    resolve (.indirectIndexed z) s =
      (let q := pointer (BitVec.ofNat 16 z.toNat)
       (plus q.1 y, q.2)) ∧
    resolve (.relative z) s =
      (⟨pc + 2 + BitVec.ofNat 16 (if z.toNat < 128 then z.toNat else z.toNat + 0xFF00), false⟩, s)

/-- R110 steps (3) to (5): the state in which an operation runs has `PC` past the whole instruction and the base cycles
and the page penalty accounted; every other register is as before, and memory as after the pointer reads. -/
def Obligations.InstructionAccounting : Prop :=
  ∀ (o : Operand) (t : Timing) (s : State),
    let r := resolve o s
    prepare o t s = (r.1.ea, { r.2 with cpu := { s.cpu with
      pc := BitVec.ofNat 16 ((s.cpu.pc.toNat + t.size) % 65536)
      cycles := s.cpu.cycles + t.cycles + (if t.penalty = true ∧ r.1.crossed = true then 1 else 0) } })

/-- R31, R32: the status byte as pushed, and the flags as pulled; unpacking what was packed gives the flags back whatever
bit 4 was. -/
def Obligations.StatusByteRoundTrip : Prop :=
  (∀ (p : Flags) (b4 : Bool),
    (packP b4 p).toNat = p.c.toNat + 2 * p.z.toNat + 4 * p.i.toNat + 8 * p.d.toNat + 16 * b4.toNat + 32
      + 64 * p.v.toNat + 128 * p.n.toNat) ∧
  (∀ v : Byte, unpackP v =
    ⟨v.getLsbD 0, v.getLsbD 1, v.getLsbD 2, v.getLsbD 3, v.getLsbD 6, v.getLsbD 7⟩) ∧
  ∀ (p : Flags) (b4 : Bool), unpackP (packP b4 p) = p

/-- R24, R25, R214: on a plain stack page, for every value of the stack pointer (the wraps at `$00` and `$FF` among them),
`PHA` then `PLA` give back the accumulator and the stack pointer, and `JSR` then `RTS` continue after the `JSR` with `SP`,
the registers and the flags as before. -/
def Obligations.StackRoundTrips : Prop :=
  ∀ (s : State) (a : Word), plainStack s → s.bus.backing.wf →
    (∃ t u : State, exec .pha s = .next t ∧ exec .pla t = .next u ∧
      t.cpu.sp = s.cpu.sp - 1 ∧ t.bus.backing.read (stackSlot s.cpu.sp).toNat = s.cpu.a ∧
      u.cpu.a = s.cpu.a ∧ u.cpu.sp = s.cpu.sp ∧ u.cpu.x = s.cpu.x ∧ u.cpu.y = s.cpu.y) ∧
    (∃ t u : State, exec (.jsrAbs a) s = .next t ∧ exec .rts t = .next u ∧
      t.cpu.pc = a ∧ t.cpu.sp = s.cpu.sp - 2 ∧
      u.cpu = { s.cpu with pc := s.cpu.pc + 3, cycles := s.cpu.cycles + 12 })

/-- R212, R213, R115: on a plain stack page `BRK` sets `I` and nothing else of the flags and pushes three bytes; and where
the handler finds the stack page plain, `RTI` continues after the padding byte with `SP`, the registers and every flag as
before the `BRK`. -/
def Obligations.BreakReturnRoundTrip : Prop :=
  ∀ s : State, plainStack s → s.bus.backing.wf →
    ∃ t : State, exec .brk s = .next t ∧ t.cpu.p = { s.cpu.p with i := true } ∧ t.cpu.sp = s.cpu.sp - 3 ∧
      (plainStack t → ∃ u : State, exec .rti t = .next u ∧
        u.cpu = { s.cpu with pc := s.cpu.pc + 2, cycles := s.cpu.cycles + 13 })

/-! ### Frames -/

/-- The register and flag frame of all 256 instructions: what an instruction may change is what R20 to R37 and its own
rule list, and nothing else. `PC` and `cycles` are left out. The accumulator forms of the shifts write `A`. -/
def Obligations.RegisterFrame : Prop :=
  ∀ (i : Instr) (s t : State), exec i s = .next t →
    (t.cpu.a = s.cpu.a ∨ i.operand = .accumulator ∨
      i.mnemonic ∈ [.lda, .txa, .tya, .pla, .adc, .sbc, .and, .ora, .eor]) ∧
    (t.cpu.x = s.cpu.x ∨ i.mnemonic ∈ [.ldx, .tax, .tsx, .inx, .dex]) ∧
    (t.cpu.y = s.cpu.y ∨ i.mnemonic ∈ [.ldy, .tay, .iny, .dey]) ∧
    (t.cpu.sp = s.cpu.sp ∨ i.mnemonic ∈ [.txs, .pha, .php, .pla, .plp, .jsr, .rts, .brk, .rti]) ∧
    (t.cpu.p.c = s.cpu.p.c ∨
      i.mnemonic ∈ [.adc, .sbc, .cmp, .cpx, .cpy, .asl, .lsr, .rol, .ror, .clc, .sec, .plp, .rti]) ∧
    (t.cpu.p.z = s.cpu.p.z ∨
      i.mnemonic ∈ [.lda, .ldx, .ldy, .tax, .tay, .txa, .tya, .tsx, .pla, .adc, .sbc, .cmp, .cpx, .cpy, .inc, .inx,
        .iny, .dec, .dex, .dey, .and, .ora, .eor, .asl, .lsr, .rol, .ror, .bit, .plp, .rti]) ∧
    (t.cpu.p.i = s.cpu.p.i ∨ i.mnemonic ∈ [.sei, .cli, .plp, .rti, .brk]) ∧
    (t.cpu.p.d = s.cpu.p.d ∨ i.mnemonic ∈ [.sed, .cld, .plp, .rti]) ∧
    (t.cpu.p.v = s.cpu.p.v ∨ i.mnemonic ∈ [.adc, .sbc, .bit, .clv, .plp, .rti]) ∧
    (t.cpu.p.n = s.cpu.p.n ∨
      i.mnemonic ∈ [.lda, .ldx, .ldy, .tax, .tay, .txa, .tya, .tsx, .pla, .adc, .sbc, .cmp, .cpx, .cpy, .inc, .inx,
        .iny, .dec, .dex, .dey, .and, .ora, .eor, .asl, .lsr, .rol, .ror, .bit, .plp, .rti])

/-- The memory frame of every instruction that stores nothing: all but the stores, the pushes, `JSR`, `BRK` and the
read-modify-write instructions on memory. Every byte of the backing array reads as before. -/
def Obligations.NoStoreFrame : Prop :=
  ∀ (i : Instr) (s t : State), exec i s = .next t →
    i.mnemonic ∉ [.sta, .stx, .sty, .pha, .php, .jsr, .brk] →
    (i.mnemonic ∈ [.inc, .dec, .asl, .lsr, .rol, .ror] → i.operand = .accumulator) →
    ∀ a : Nat, t.bus.backing.read a = s.bus.backing.read a

/-- The memory frame of the instructions that store: the stores and the read-modify-write instructions at the effective
address, the pushes, `JSR` and `BRK` at the stack addresses. `storedAt`, in the wiring in force when the write happens,
gives the byte of the backing array that may change; a write that a port or the mapper answers stores to none. -/
def Obligations.StoreFrame : Prop :=
  ∀ (i : Instr) (s t : State), exec i s = .next t →
    let same (a : Nat) : Prop := t.bus.backing.read a = s.bus.backing.read a
    let p := prepare i.operand i.timing s
    let sp := s.cpu.sp
    let s1 := push (BitVec.ofNat 8 (p.2.cpu.pc.toNat / 256)) p.2
    let s2 := push (BitVec.ofNat 8 (p.2.cpu.pc.toNat % 256)) s1
    let r1 := push (BitVec.ofNat 8 ((p.2.cpu.pc - 1).toNat / 256)) p.2
    (i.mnemonic ∈ [.sta, .stx, .sty] → ∀ a : Nat, storedAt p.1 p.2 ≠ some a → same a) ∧
    (i.mnemonic ∈ [.inc, .dec, .asl, .lsr, .rol, .ror] → i.operand ≠ .accumulator →
      ∀ a : Nat, storedAt p.1 (memRead p.1 p.2).2 ≠ some a → same a) ∧
    (i.mnemonic ∈ [.pha, .php] → ∀ a : Nat, storedAt (stackSlot sp) p.2 ≠ some a → same a) ∧
    (i.mnemonic = .jsr → ∀ a : Nat, storedAt (stackSlot sp) p.2 ≠ some a →
      storedAt (stackSlot (sp - 1)) r1 ≠ some a → same a) ∧
    (i.mnemonic = .brk → ∀ a : Nat, storedAt (stackSlot sp) p.2 ≠ some a →
      storedAt (stackSlot (sp - 1)) s1 ≠ some a → storedAt (stackSlot (sp - 1 - 1)) s2 ≠ some a → same a)

/-- Where an instruction's reads and writes end in RAM, it changes nothing outside the processor and the backing array:
no pending event, no wiring, no picture-processor register, no collaborator (R62, R63). Stated for one bus access, which
is all an instruction reaches the rest of the machine by (R51). -/
def Obligations.RamAccess : Prop :=
  ∀ (s : State) (a : Word) (k : Nat),
    (targetOf s.bus.readSlots a = (k, .ram) → memRead a s = (s.bus.backing.read k, s)) ∧
    (∀ v : Byte, targetOf s.bus.writeSlots a = (k, .ram) →
      memWrite a v s = { s with bus := { s.bus with backing := s.bus.backing.write k v } } ∧ storedAt a s = some k ∧
      (s.bus.backing.wf → (memWrite a v s).bus.backing.wf ∧ (memWrite a v s).bus.backing.read k = v) ∧
      ∀ j : Nat, j ≠ k → (memWrite a v s).bus.backing.read j = s.bus.backing.read j)

/-! ### Interrupts, stalls, reset, the step -/

/-- R307: entering NMI or IRQ in every state; on a plain stack page the three pushed bytes stand where the rule says. -/
def Obligations.InterruptEntryResult : Prop :=
  ∀ (s : State) (vector : Word),
    let t := interruptEntry vector s
    let s1 := push (packP false s.cpu.p) (push16 s.cpu.pc s)
    let r := read16 vector { s1 with cpu := { s.cpu with sp := s.cpu.sp - 3, p := { s.cpu.p with i := true } } }
    t = { r.2 with cpu := { s.cpu with
      sp := s.cpu.sp - 3, p := { s.cpu.p with i := true }, pc := r.1, cycles := s.cpu.cycles + 7 } } ∧
    (plainStack s → s.bus.backing.wf →
      t.bus.backing.read (stackSlot s.cpu.sp).toNat = BitVec.ofNat 8 (s.cpu.pc.toNat / 256) ∧
      t.bus.backing.read (stackSlot (s.cpu.sp - 1)).toNat = BitVec.ofNat 8 (s.cpu.pc.toNat % 256) ∧
      t.bus.backing.read (stackSlot (s.cpu.sp - 2)).toNat = packP false s.cpu.p)

/-- R304, R305, R306: at an instruction boundary an NMI comes before an IRQ and cannot be masked; an IRQ is entered only
with `I` clear and does not change the set of its sources; then one instruction executes in the same call. -/
def Obligations.InterruptSampling : Prop :=
  ∀ s : State, s.lines.stall = 0 →
    let at_ (u : State) : Result := exec (fetch u).1 (fetch u).2
    (s.lines.nmiPending = true → executeInstruction s =
      at_ (interruptEntry 0xFFFA { s with lines := { s.lines with nmiPending := false } })) ∧
    (s.lines.nmiPending = false → s.lines.irq ≠ ⟨false, false, false⟩ → s.cpu.p.i = false →
      executeInstruction s = at_ (interruptEntry 0xFFFE s)) ∧
    (s.lines.nmiPending = false → (s.lines.irq = ⟨false, false, false⟩ ∨ s.cpu.p.i = true) →
      executeInstruction s = at_ s)

/-- R41, R303: the IRQ sources are requested and cancelled each on its own, and a request and a cancel change nothing
but the set of sources. -/
def Obligations.IrqSourcesIndependent : Prop :=
  ∀ (s : State) (k j : IrqSource),
    (irqPending j (requestIrq k s) = (decide (j = k) || irqPending j s)) ∧
    (irqPending j (cancelIrq k s) = (decide (j ≠ k) && irqPending j s)) ∧
    (requestIrq k s = { s with lines := { s.lines with irq := (requestIrq k s).lines.irq } }) ∧
    (cancelIrq k s = { s with lines := { s.lines with irq := (cancelIrq k s).lines.irq } })

/-- R305, R413: with `n` stall units pending, `n` calls of `ExecuteInstruction()` consume them, one cycle each, execute
nothing and enter no interrupt. -/
def Obligations.StallUnitsConsumed : Prop :=
  ∀ (n : Nat) (s : State), s.lines.stall = n →
    executeTimes n s = .next { s with
      cpu := { s.cpu with cycles := s.cpu.cycles + n }, lines := { s.lines with stall := 0 } }

/-- R401: `Reset()` on a running machine reads the vector, low byte first, and sets `SP`, the flags, `cycles`, `stall`
and the pending NMI; `A`, `X`, `Y`, the IRQ sources and the backing array stay. -/
def Obligations.ResetOperation : Prop :=
  ∀ s : State,
    let lo := memRead 0xFFFC s
    let hi := memRead 0xFFFD lo.2
    resetProcessor s = { hi.2 with
      cpu := { s.cpu with
        pc := littleEndian lo.1 hi.1, sp := 0xFD, p := ⟨false, false, true, false, false, false⟩, cycles := 0 }
      lines := { hi.2.lines with stall := 0, nmiPending := false } } ∧
    (resetProcessor s).bus.backing = s.bus.backing ∧ packP false (resetProcessor s).cpu.p = 0x24

/-- R45, R402: what the machine holds after power-on and `Reset()` with no cartridge. The values of `A`, `X` and `Y` (log
entry 1) and what the picture processor's own memory holds (log entry 3) are the model's choice and not stated here. -/
def Obligations.ResetValues : Prop :=
  let s := State.reset
  s.cpu.sp = 0xFD ∧ s.cpu.pc = 0x0000 ∧ s.cpu.p = ⟨false, false, true, false, false, false⟩ ∧ s.cpu.cycles = 0 ∧
  s.lines = ⟨0, false, ⟨false, false, false⟩⟩ ∧
  (∀ a : Nat, s.bus.backing.read a = 0) ∧
  s.ppu.v = 0 ∧ s.ppu.t = 0 ∧ s.ppu.fineX = 0 ∧ s.ppu.w = false ∧ s.ppu.ctrl = 0 ∧ s.ppu.mask = 0 ∧
  s.ppu.vblank = false ∧ s.ppu.spriteZeroHit = false ∧ s.ppu.spriteOverflow = false ∧ s.ppu.oamAddr = 0 ∧
  s.ppu.readBuffer = 0 ∧ s.ppu.cycle = 0 ∧ s.ppu.scanLine = 0 ∧ s.ppu.nmiDelay = 0 ∧
  (∀ a : Nat, s.ppu.oam.read a = 0) ∧ resetProcessor s = s

/-- R320: one step of the machine is one `ExecuteInstruction()` call, then three picture-processor ticks and then one
audio step for each of its cycles. -/
def Obligations.OrchestratorStep : Prop :=
  ∀ s t : State, executeInstruction s = .next t →
    step s = .next (audioSteps (t.cpu.cycles - s.cpu.cycles) (ppuTicks (3 * (t.cpu.cycles - s.cpu.cycles)) t))

/-- A step runs the decoded instruction: with no stall unit pending, when the bytes read at `PC` (after the interrupt that
is entered, if any) decode to `i`, the step is `exec i` in the state after those reads, then the other agents' catching
up. Exactly the opcode and its operand bytes are read (R59). -/
def Obligations.StepRunsDecodedInstruction : Prop :=
  ∀ (s : State) (op : Byte) (operand rest : List Byte) (i : Instr), s.lines.stall = 0 →
    let b := sampleInterrupts s
    let r := readBytes (1 + operandBytes op) b.cpu.pc b
    r.1 = op :: operand → decode r.1 = .ok (i, rest) →
    step s =
      match exec i r.2 with
      | .next t => .next (catchUp (t.cpu.cycles - s.cpu.cycles) t)
      | .fault f => .fault f
      | .refused f => .refused f

/-- No step stops: neither an instruction nor a step ever faults or is refused, in any state. R300 says it of the
processor, and names errors thrown by a collaborator's callback besides: that there are none is the model's choice
(U14, log entry 23), and so is `UNDOC_POLICY`, by which the undocumented opcodes run as no-operations (log entry 4). -/
def Obligations.NothingStops : Prop :=
  (∀ (i : Instr) (s : State), ∃ t : State, exec i s = .next t) ∧ ∀ s : State, ∃ t : State, step s = .next t

/-- R305, R307, R111, R107: every call of `ExecuteInstruction()` uses at least 1 cycle and at most 15, an interrupt entry
of 7 and an instruction of 8. The bound 15 is the model's choice (log entry 25, DESIGN CHOICE): the 8-cycle rows that R107
and the opcode table give undocumented opcodes are followed against R412's summary, by which a call takes at most 14. -/
def Obligations.CyclesPerCall : Prop :=
  ∀ s t : State, executeInstruction s = .next t →
    s.cpu.cycles + 1 ≤ t.cpu.cycles ∧ t.cpu.cycles ≤ s.cpu.cycles + 15

/-! ### Encoding -/

/-- R90, R91, R108: the opcode table has 256 entries and entry `n` is for opcode `n`; every instruction agrees with the
table's row for its opcode in mnemonic, addressing mode, length, cycles and page penalty; and the decoder gives, for every
opcode, an instruction with that opcode. -/
def Obligations.InstructionsMatchTable : Prop :=
  (opcodeTable.length = 256 ∧
    ∀ op : Byte, opcodeTable[op.toNat]? = some (opcodeRow op) ∧ (opcodeRow op).opcode = op.toNat) ∧
  (∀ i : Instr, opcodeRow i.opcode = ⟨i.opcode.toNat, i.mnemonic, i.operand.mode, i.timing⟩ ∧
    (encode i).length = i.timing.size) ∧
  ∀ (op b : Byte) (w : Word), (instrAt op b w).opcode = op

/-- Decoding the encoding of any of the 256 instructions, whatever follows it, gives the instruction and what follows. -/
def Obligations.DecodeEncodeAllInstructions : Prop :=
  ∀ (i : Instr) (rest : List Byte), decode (encode i ++ rest) = .ok (i, rest)

/-- Encoding what was decoded gives the bytes back, but for `BRK`, whose padding byte is not part of the instruction. -/
def Obligations.EncodeDecodeBytes : Prop :=
  ∀ (bytes rest : List Byte) (i : Instr), decode bytes = .ok (i, rest) → i.mnemonic ≠ .brk →
    encode i ++ rest = bytes

/-- R116's examples of every addressing mode, as bytes. -/
def Obligations.DecodeKnownWords : Prop :=
  decode [0x18] = .ok (.clc, []) ∧
  decode [0x0A] = .ok (.aslAcc, []) ∧
  decode [0xA9, 0x10] = .ok (.ldaImm 0x10, []) ∧
  decode [0xA5, 0x10] = .ok (.ldaZp 0x10, []) ∧
  decode [0xB5, 0x10] = .ok (.ldaZpX 0x10, []) ∧
  decode [0xB6, 0x10] = .ok (.ldxZpY 0x10, []) ∧
  decode [0xAD, 0x34, 0x12] = .ok (.ldaAbs 0x1234, []) ∧
  decode [0xBD, 0x34, 0x12] = .ok (.ldaAbsX 0x1234, []) ∧
  decode [0xB9, 0x34, 0x12] = .ok (.ldaAbsY 0x1234, []) ∧
  decode [0x6C, 0x34, 0x12] = .ok (.jmpInd 0x1234, []) ∧
  decode [0xA1, 0x10] = .ok (.ldaIndX 0x10, []) ∧
  decode [0xB1, 0x10] = .ok (.ldaIndY 0x10, []) ∧
  decode [0xD0, 0xF9] = .ok (.bne 0xF9, [])

/-- R117 with R104: the assembler's offset of a branch at `a` to `b` makes the branch go to `b`; it is refused exactly
when `b - (a + 2)`, as a signed number, is outside -128 to 127. -/
def Obligations.BranchOffsetInverse : Prop :=
  ∀ (a b : Word) (s : State),
    (∀ off : Byte, branchOffset a b = .ok off → s.cpu.pc = a → (resolve (.relative off) s).1.ea = b) ∧
    (branchOffset a b = .error .branchOutOfRange ↔ ((b - (a + 2)).toInt < -128 ∨ 127 < (b - (a + 2)).toInt))

/-! ### The bus -/

/-- R65, R66, R62: after `ConfigureAddressMirroring` an address of the range above the first segment answers as its
canonical address does, for reads and for writes, and every other address keeps its own handlers. -/
def Obligations.MirroringRedirects : Prop :=
  ∀ (base len range : Nat) (s t : State), configureAddressMirroring base len range s = .next t →
    ∀ a : Nat,
      (base + len ≤ a → a < base + range →
        slotHandler t.bus.readSlots a = .redirect base len ∧ slotHandler t.bus.writeSlots a = .redirect base len ∧
        canonicalAddress base len a = base + (a - base) % len ∧
        slotHandler t.bus.readSlots (canonicalAddress base len a) = slotHandler s.bus.readSlots (canonicalAddress base len a) ∧
        slotHandler t.bus.writeSlots (canonicalAddress base len a) = slotHandler s.bus.writeSlots (canonicalAddress base len a)) ∧
      ((a < base + len ∨ base + range ≤ a) →
        slotHandler t.bus.readSlots a = slotHandler s.bus.readSlots a ∧
        slotHandler t.bus.writeSlots a = slotHandler s.bus.writeSlots a)

/-- R66 on the console's own wiring: a byte written through any alias of the internal RAM is read through every alias. -/
def Obligations.RamAliasesAgree : Prop :=
  ∀ (s : State) (a b : Word) (v : Byte), s.bus.readSlots = consoleReadSlots → s.bus.writeSlots = consoleWriteSlots →
    s.bus.backing.wf → a.toNat < 0x2000 → b.toNat < 0x2000 → a.toNat % 0x800 = b.toNat % 0x800 →
    (memRead b (memWrite a v s)).1 = v

/-- R61: the console's address map, before a cartridge is loaded: where a read and a write of each address end. -/
def Obligations.ConsoleAddressMap : Prop :=
  ∀ a : Word,
    let n := a.toNat
    let reads := targetOf consoleReadSlots a
    let writes := targetOf consoleWriteSlots a
    (n < 0x2000 → reads = (n % 0x800, .ram) ∧ writes = (n % 0x800, .ram)) ∧
    (0x2000 ≤ n → n < 0x4000 → reads = (0x2000 + n % 8, .ppuPort) ∧ writes = (0x2000 + n % 8, .ppuPort)) ∧
    (0x4000 ≤ n → n ≤ 0x4013 → reads = (n, .apu) ∧ writes = (n, .apu)) ∧
    (n = 0x4014 → reads = (n, .oamDma) ∧ writes = (n, .oamDma)) ∧
    (n = 0x4015 → reads = (n, .apu) ∧ writes = (n, .apu)) ∧
    (n = 0x4016 → reads = (n, .controller false) ∧ writes = (n, .controller false)) ∧
    (n = 0x4017 → reads = (n, .controller true) ∧ writes = (n, .apu)) ∧
    (0x4018 ≤ n → reads = (n, .ram) ∧ writes = (n, .ram))

/-- R64, R67: the configuration calls replace exactly the slots they name; R69: `Wipe()` zeroes the backing array and
keeps the wiring; R68: a mirroring range that the segment length does not divide is a configuration error without effect.
The other malformed mirroring calls are the model's choice (log entry 10) and not stated. -/
def Obligations.BusConfiguration : Prop :=
  ∀ (s : State) (a first last : Word) (h k : Handler) (x : Nat),
    (slotHandler (configureMemoryRead a h s).bus.readSlots x =
      if x = a.toNat then h else slotHandler s.bus.readSlots x) ∧
    (configureMemoryRead a h s).bus.writeSlots = s.bus.writeSlots ∧
    (slotHandler (configureMemoryWrite a h s).bus.writeSlots x =
      if x = a.toNat then h else slotHandler s.bus.writeSlots x) ∧
    (configureMemoryWrite a h s).bus.readSlots = s.bus.readSlots ∧
    (slotHandler (configureMemoryAccessRange first last h k s).bus.readSlots x =
      if first.toNat ≤ x ∧ x ≤ last.toNat then h else slotHandler s.bus.readSlots x) ∧
    (slotHandler (configureMemoryAccessRange first last h k s).bus.writeSlots x =
      if first.toNat ≤ x ∧ x ≤ last.toNat then k else slotHandler s.bus.writeSlots x) ∧
    (wipe s).bus.backing.read x = 0 ∧ (wipe s).bus.readSlots = s.bus.readSlots ∧
    (wipe s).bus.writeSlots = s.bus.writeSlots ∧
    ∀ base len range : Nat, range % len ≠ 0 → configureAddressMirroring base len range s = .fault .malformedMirroring

/-- R79: a write of `v` to the OAM DMA port copies the 256 bytes of page `v` to the OAM from its current address on,
modulo 256, and adds 513 stall units, or 514 when the cycle counter is odd. Stated for a source page in RAM, where the
256 reads have no side effect; the stall is stated for every page. -/
def Obligations.OamDmaCopy : Prop :=
  ∀ (s : State) (v : Byte), targetOf s.bus.writeSlots 0x4014 = (0x4014, .oamDma) →
    let t := memWrite 0x4014 v s
    ((∀ i : Byte, (targetOf s.bus.readSlots (littleEndian i v)).2 = .ram) → s.ppu.oam.wf →
      (∀ i : Byte, t.ppu.oam.read ((s.ppu.oamAddr.toNat + i.toNat) % 256) =
        s.bus.backing.read (targetOf s.bus.readSlots (littleEndian i v)).1) ∧
      t.lines.stall = s.lines.stall + 513 + s.cpu.cycles % 2) ∧
    t.cpu = s.cpu ∧ t.bus.backing = s.bus.backing ∧ s.lines.stall + 513 ≤ t.lines.stall

/-! ### The picture processor -/

/-- R347, R348, R349, R350, R345: the write toggle changes only through the scroll, address and status ports: a write to
port 5 or 6 inverts it, a read of port 2 clears it, and every other port access and every tick leave it. -/
def Obligations.WriteToggle : Prop :=
  ∀ (s : State) (n : Nat) (d : Byte), n < 8 →
    ((n = 5 ∨ n = 6) → (writePort n d s).ppu.w = !s.ppu.w) ∧
    (n ≠ 5 → n ≠ 6 → (writePort n d s).ppu.w = s.ppu.w) ∧
    (n = 2 → (readPort n s).2.ppu.w = false) ∧
    (n ≠ 2 → (readPort n s).2.ppu.w = s.ppu.w) ∧
    (ppuTick s).ppu.w = s.ppu.w

/-- R350: the writes to the control, scroll and address ports, field by field of `v`, `t`, `x` (`fineX`) and `w`. -/
def Obligations.ScrollWrites : Prop :=
  ∀ (s : State) (d : Byte),
    let p := s.ppu
    let bits (x : BitVec 15) (lo n : Nat) : Nat := x.toNat / 2 ^ lo % 2 ^ n
    let dn := d.toNat
    let c := (writePort 0 d s).ppu
    let sc := (writePort 5 d s).ppu
    let ad := (writePort 6 d s).ppu
    (c.ctrl = d ∧ bits c.t 10 2 = dn % 4 ∧ bits c.t 0 10 = bits p.t 0 10 ∧ bits c.t 12 3 = bits p.t 12 3 ∧ c.v = p.v ∧
      c.fineX = p.fineX ∧ c.w = p.w) ∧
    (p.w = false → bits sc.t 0 5 = dn / 8 ∧ bits sc.t 5 10 = bits p.t 5 10 ∧ sc.fineX.toNat = dn % 8 ∧ sc.w = true ∧
      sc.v = p.v) ∧
    (p.w = true → bits sc.t 12 3 = dn % 8 ∧ bits sc.t 5 5 = dn / 8 ∧ bits sc.t 0 5 = bits p.t 0 5 ∧
      bits sc.t 10 2 = bits p.t 10 2 ∧ sc.fineX = p.fineX ∧ sc.w = false ∧ sc.v = p.v) ∧
    (p.w = false → bits ad.t 8 6 = dn % 64 ∧ bits ad.t 14 1 = 0 ∧ bits ad.t 0 8 = bits p.t 0 8 ∧ ad.w = true ∧
      ad.v = p.v ∧ ad.fineX = p.fineX) ∧
    (p.w = true → bits ad.t 0 8 = dn ∧ bits ad.t 8 7 = bits p.t 8 7 ∧ ad.v = ad.t ∧ ad.w = false ∧
      ad.fineX = p.fineX)

/-- R345, R346, R348: the mask, status and OAM ports. That a write to the status port does nothing is the spec's U26 (log
entry 27). A read of the status port gives the three flags in bits 7, 6 and 5, then
clears VBlank and the toggle and changes nothing else of the picture processor. -/
def Obligations.MaskStatusAndOamPorts : Prop :=
  ∀ (s : State) (d : Byte),
    (readPort 2 s).1.getLsbD 7 = s.ppu.vblank ∧ (readPort 2 s).1.getLsbD 6 = s.ppu.spriteZeroHit ∧
    (readPort 2 s).1.getLsbD 5 = s.ppu.spriteOverflow ∧
    (readPort 2 s).2.ppu = { s.ppu with vblank := false, w := false } ∧
    writePort 1 d s = { s with ppu := { s.ppu with mask := d } } ∧
    writePort 2 d s = s ∧
    writePort 3 d s = { s with ppu := { s.ppu with oamAddr := d } } ∧
    writePort 4 d s = { s with ppu := { s.ppu with
      oam := s.ppu.oam.write s.ppu.oamAddr.toNat d, oamAddr := BitVec.ofNat 8 ((s.ppu.oamAddr.toNat + 1) % 256) } } ∧
    readPort 4 s = (s.ppu.oam.read s.ppu.oamAddr.toNat, s)

/-- R349, R72: the data port. Every access increments `v` by 1 or 32; a write stores at `v`, a read is buffered below the
palette and immediate in it; where the mapper intercepts the access, its CHR-space get and set serve it instead. Behind
an address stands its own cell but in the nametable range, where the mode last announced by `MirrorModeChanged` decides.
The size of the space, that range's bounds and that no other two addresses share a cell are the model's (log entry 9,
PRESUMED: the spec's N19), and so is that one pair of queues answers every interception (log entries 7 and 9). -/
def Obligations.DataPort : Prop :=
  ∀ (s : State) (d : Byte),
    let p := s.ppu
    let a := p.v.toNat % 0x4000
    let v := p.v + (if p.ctrl.getLsbD 2 then 32 else 1)
    let intercepts (access : PpuSpan → Bool) (x : Nat) : Bool := ppuMapped access p.slots x
    ((writePort 7 d s).ppu.v = v ∧ (readPort 7 s).2.ppu.v = v ∧ (a < 0x3F00 → (readPort 7 s).1 = p.readBuffer)) ∧
    (intercepts PpuSpan.writes a = false →
      writePort 7 d s = { s with ppu := { p with v := v, memory := p.memory.write (vramCell s a) d } }) ∧
    (intercepts PpuSpan.writes a = true →
      writePort 7 d s = { mapperChrWrite s with ppu := { p with v := v, slots := (mapperChrWrite s).ppu.slots } }) ∧
    (a < 0x3F00 → intercepts PpuSpan.reads a = false → readPort 7 s =
      (p.readBuffer, { s with ppu := { p with v := v, readBuffer := p.memory.read (vramCell s a) } })) ∧
    (a < 0x3F00 → intercepts PpuSpan.reads a = true → readPort 7 s =
      (p.readBuffer, { (mapperChrRead s).2 with ppu := { p with
        v := v, readBuffer := (mapperChrRead s).1, slots := (mapperChrRead s).2.ppu.slots } })) ∧
    (0x3F00 ≤ a → intercepts PpuSpan.reads a = false → intercepts PpuSpan.reads (a - 0x1000) = false → readPort 7 s =
      (p.memory.read (vramCell s a),
        { s with ppu := { p with v := v, readBuffer := p.memory.read (vramCell s (a - 0x1000)) } })) ∧
    (0x3F00 ≤ a → intercepts PpuSpan.reads a = false → intercepts PpuSpan.reads (a - 0x1000) = true →
      (readPort 7 s).1 = p.memory.read (vramCell s a) ∧ (readPort 7 s).2.ppu.readBuffer = (mapperChrRead s).1) ∧
    (0x3F00 ≤ a → intercepts PpuSpan.reads a = true → (readPort 7 s).1 = (mapperChrRead s).1) ∧
    (∀ x : Nat, x < 0x2000 ∨ 0x3F00 ≤ x → vramCell s x = x) ∧
    (∀ x : Nat, 0x2000 ≤ x → x < 0x3F00 → 0x2000 ≤ vramCell s x ∧ vramCell s x < 0x3000) ∧
    ∀ m : Nat, applyMapperAction s (.mirrorModeChanged m) = { s with mapper := { s.mapper with mirrorMode := some m } } ∧
      ∀ x : Nat, 0x2000 ≤ x → x < 0x3F00 → vramCell (applyMapperAction s (.mirrorModeChanged m)) x =
        0x2000 + (Config.nametableCell (some m) (BitVec.ofNat 13 (x - 0x2000))).toNat

/-- R344: when the NMI output changes from false to true, by a write to the control port or by VBlank, the delay counter
is loaded with 15; every other tick counts it down to 0, and a tick triggers the NMI exactly when it finds the counter
at 1 and the output still true. That a tick counts down before VBlank is set, so that the tick that loads the counter
leaves it at 15, is the model's choice (log entry 14), and so is the fixed 15 (log entry 18). -/
def Obligations.NmiDelay : Prop :=
  ∀ (s : State) (d : Byte),
    let out (p : Ppu) : Bool := p.ctrl.getLsbD 7 && p.vblank
    let arms : Prop :=
      s.ppu.cycle = 1 ∧ s.ppu.scanLine = 241 ∧ s.ppu.ctrl.getLsbD 7 = true ∧ s.ppu.vblank = false
    (out s.ppu = false → d.getLsbD 7 = true → s.ppu.vblank = true → (writePort 0 d s).ppu.nmiDelay = 15) ∧
    ((out s.ppu = true ∨ d.getLsbD 7 = false ∨ s.ppu.vblank = false) →
      (writePort 0 d s).ppu.nmiDelay = s.ppu.nmiDelay) ∧
    ((writePort 0 d s).lines = s.lines) ∧
    (arms → (ppuTick s).ppu.nmiDelay = 15) ∧
    (¬arms → (ppuTick s).ppu.nmiDelay = s.ppu.nmiDelay - 1) ∧
    ((ppuTick s).lines.nmiPending = (s.lines.nmiPending || (decide (s.ppu.nmiDelay = 1) && out s.ppu))) ∧
    ((ppuTick s).lines.stall = s.lines.stall)

/-- R341, R342, R343: the counters after one tick, and the flags at the ticks (241, 1) and (261, 1). -/
def Obligations.TickCountersAndVblank : Prop :=
  ∀ s : State, s.ppu.cycle ≤ 340 → s.ppu.scanLine ≤ 261 →
    let q := (ppuTick s).ppu
    (s.ppu.cycle < 340 → q.cycle = s.ppu.cycle + 1 ∧ q.scanLine = s.ppu.scanLine) ∧
    (s.ppu.cycle = 340 → q.cycle = 0 ∧ q.scanLine = (if s.ppu.scanLine = 261 then 0 else s.ppu.scanLine + 1)) ∧
    (s.ppu.cycle = 1 → s.ppu.scanLine = 241 → q.vblank = true) ∧
    (s.ppu.cycle = 1 → s.ppu.scanLine = 261 →
      q.vblank = false ∧ q.spriteZeroHit = false ∧ q.spriteOverflow = false) ∧
    (s.ppu.cycle ≠ 1 → q.vblank = s.ppu.vblank)

/-- R353: sprite evaluation retains the first 8 qualifying OAM entries in index order, never more than 8, and sets the
overflow flag exactly when a ninth qualifies (an overflow flag already set stays set until the pre-render line). -/
def Obligations.SpriteEvaluation : Prop :=
  ∀ s : State,
    let h : Nat := if s.ppu.ctrl.getLsbD 5 then 16 else 8
    let hit (i : Nat) : Prop := (s.ppu.oam.read (4 * i)).toNat ≤ s.ppu.scanLine ∧
      s.ppu.scanLine - (s.ppu.oam.read (4 * i)).toNat < h
    let kept := (evaluateSprites s).ppu.sprites.map Sprite.index
    kept.length ≤ 8 ∧ kept.Pairwise (fun i j => i < j) ∧
    (∀ i ∈ kept, i < 64 ∧ hit i) ∧
    (∀ j : Nat, j < 64 → hit j → j ∈ kept ∨ (kept.length = 8 ∧ ∀ i ∈ kept, i < j)) ∧
    ((evaluateSprites s).ppu.spriteOverflow = true ↔
      s.ppu.spriteOverflow = true ∨ ∃ j : Nat, j < 64 ∧ hit j ∧ j ∉ kept)

/-- R351, R352: the scroll increments and copies, field by field, and when a tick makes them: on a rendering-enabled
visible or pre-render line at the named cycles, and at no other cycle and on no other tick does `v` change. The formulas
and the fetch cycles are general knowledge by the spec's own mark (`93_implementation_defined.md`, Part 2); what else a
tick does, in the order of log entry 14, leaves `v`. -/
def Obligations.ScrollIncrements : Prop :=
  (∀ t v : BitVec 15,
    let bits (x : BitVec 15) (lo n : Nat) : Nat := x.toNat / 2 ^ lo % 2 ^ n
    let x := incrementX v
    let y := incrementY v
    (bits x 5 5 = bits v 5 5 ∧ bits x 11 4 = bits v 11 4 ∧
      (bits v 0 5 = 31 → bits x 0 5 = 0 ∧ bits x 10 1 = 1 - bits v 10 1) ∧
      (bits v 0 5 ≠ 31 → bits x 0 5 = bits v 0 5 + 1 ∧ bits x 10 1 = bits v 10 1)) ∧
    (bits y 0 5 = bits v 0 5 ∧ bits y 10 1 = bits v 10 1 ∧
      (bits v 12 3 < 7 → bits y 12 3 = bits v 12 3 + 1 ∧ bits y 5 7 = bits v 5 7) ∧
      (bits v 12 3 = 7 → bits y 12 3 = 0 ∧
        (bits v 5 5 = 29 → bits y 5 5 = 0 ∧ bits y 11 1 = 1 - bits v 11 1) ∧
        (bits v 5 5 = 31 → bits y 5 5 = 0 ∧ bits y 11 1 = bits v 11 1) ∧
        (bits v 5 5 ≠ 29 → bits v 5 5 ≠ 31 → bits y 5 5 = bits v 5 5 + 1 ∧ bits y 11 1 = bits v 11 1))) ∧
    (bits (copyX t v) 10 1 = bits t 10 1 ∧ bits (copyX t v) 0 5 = bits t 0 5 ∧ bits (copyX t v) 5 5 = bits v 5 5 ∧
      bits (copyX t v) 11 4 = bits v 11 4) ∧
    (bits (copyY t v) 11 4 = bits t 11 4 ∧ bits (copyY t v) 5 5 = bits t 5 5 ∧ bits (copyY t v) 0 5 = bits v 0 5 ∧
      bits (copyY t v) 10 1 = bits v 10 1)) ∧
  ∀ s : State,
    let p := s.ppu
    let v := (ppuTick s).ppu.v
    let renders : Prop :=
      (p.mask.getLsbD 3 = true ∨ p.mask.getLsbD 4 = true) ∧ (p.scanLine < 240 ∨ p.scanLine = 261)
    (¬renders → v = p.v) ∧
    (renders →
      (((1 ≤ p.cycle ∧ p.cycle < 256) ∨ (321 ≤ p.cycle ∧ p.cycle ≤ 336)) →
        v = if p.cycle % 8 = 0 then incrementX p.v else p.v) ∧
      (p.cycle = 256 → v = incrementY (incrementX p.v)) ∧
      (p.cycle = 257 → v = copyX p.t p.v) ∧
      (280 ≤ p.cycle → p.cycle ≤ 304 → v = if p.scanLine = 261 then copyY p.t p.v else p.v) ∧
      ((p.cycle = 0 ∨ (258 ≤ p.cycle ∧ p.cycle ≤ 279) ∨ (305 ≤ p.cycle ∧ p.cycle ≤ 320) ∨ 337 ≤ p.cycle) →
        v = p.v))

/-- R356, R357: the pixel at a dot and the sprite-zero hit. A hidden layer, or one masked in the left 8 columns, is
transparent; of the sprites the first retained one that is opaque at the column counts. What a background tile looks
like is a free function (log entry 12). -/
def Obligations.PixelCompositing : Prop :=
  ∀ p : Ppu, p.scanLine < 240 → 1 ≤ p.cycle → p.cycle ≤ 256 →
    let x := p.cycle - 1
    let clear (v : BitVec 4) : Prop := v.toNat % 4 = 0
    let bg := backgroundAt p x
    let sp := visibleSpriteAt p x
    let q := pixelDot p
    (p.mask.getLsbD 3 = false ∨ (x < 8 ∧ p.mask.getLsbD 1 = false) → clear bg) ∧
    (p.mask.getLsbD 4 = false ∨ (x < 8 ∧ p.mask.getLsbD 2 = false) → sp = none) ∧
    (p.mask.getLsbD 4 = true → (8 ≤ x ∨ p.mask.getLsbD 2 = true) →
      (sp = none → ∀ k ∈ p.sprites, clear (k.pixelAt x)) ∧
      ∀ k : Sprite, sp = some k → ¬ clear (k.pixelAt x) ∧
        ∃ before after : List Sprite, p.sprites = before ++ k :: after ∧ ∀ j ∈ before, clear (j.pixelAt x)) ∧
    (sp = none → q = { p with pixel := if bg.toNat % 4 = 0 then .backdrop else .background bg }) ∧
    ∀ k : Sprite, sp = some k → q =
      if bg.toNat % 4 = 0 then { p with pixel := .sprite (k.pixelAt x) }
      else { p with
        spriteZeroHit := p.spriteZeroHit || decide (k.index = 0 ∧ x < 255)
        pixel := if k.behind then .background bg else .sprite (k.pixelAt x) }

/-- R67, R81: the ports behind which the model holds a collaborator's replies: the controllers, read at `$4016` and
`$4017` and strobed at `$4016`, and a loaded cartridge's mapper from `$4100` on. A controller read is any byte (U11): the
next one the host supplied, else a free one. That the replies are queues is the model's choice (log entries 7 and 8), and
so is that a load leaves an earlier cartridge's slots below `$4100` (log entry 29). -/
def Obligations.CollaboratorPorts : Prop :=
  ∀ s : State,
    (∀ (b : Byte) (rest : List Byte), targetOf s.bus.readSlots 0x4016 = (0x4016, .controller false) →
      s.pad1.isSerial = true → s.pad1.serial = b :: rest →
      memRead 0x4016 s = (b, { s with pad1 := { s.pad1 with serial := rest } })) ∧
    (∀ (b : Byte) (rest : List Byte), targetOf s.bus.readSlots 0x4016 = (0x4016, .controller false) →
      s.pad1.isSerial = false → s.pad1.portValues = b :: rest →
      memRead 0x4016 s = (b, { s with pad1 := { s.pad1 with portValues := rest } })) ∧
    (targetOf s.bus.readSlots 0x4016 = (0x4016, .controller false) →
      (if s.pad1.isSerial then s.pad1.serial else s.pad1.portValues) = [] →
      memRead 0x4016 s = (Config.freeByte s.freeCount, { s with freeCount := s.freeCount + 1 })) ∧
    (∀ (b : Byte) (rest : List Byte), targetOf s.bus.readSlots 0x4017 = (0x4017, .controller true) →
      s.pad2.isSerial = true → s.pad2.serial = b :: rest →
      memRead 0x4017 s = (b, { s with pad2 := { s.pad2 with serial := rest } })) ∧
    (∀ (b : Byte) (rest : List Byte), targetOf s.bus.readSlots 0x4017 = (0x4017, .controller true) →
      s.pad2.isSerial = false → s.pad2.portValues = b :: rest →
      memRead 0x4017 s = (b, { s with pad2 := { s.pad2 with portValues := rest } })) ∧
    (targetOf s.bus.readSlots 0x4017 = (0x4017, .controller true) →
      (if s.pad2.isSerial then s.pad2.serial else s.pad2.portValues) = [] →
      memRead 0x4017 s = (Config.freeByte s.freeCount, { s with freeCount := s.freeCount + 1 })) ∧
    (∀ v : Byte, targetOf s.bus.writeSlots 0x4016 = (0x4016, .controller false) →
      memWrite 0x4016 v s = { s with
        pad1 := { s.pad1 with strobes := s.pad1.strobes + 1 }, pad2 := { s.pad2 with strobes := s.pad2.strobes + 1 } }) ∧
    ∀ (m : Mapper) (a : Word),
      (0x4100 ≤ a.toNat → targetOf (loadCartridge m s).bus.readSlots a = (a.toNat, .mapper) ∧
        targetOf (loadCartridge m s).bus.writeSlots a = (a.toNat, .mapper)) ∧
      (a.toNat < 0x4100 → slotHandler (loadCartridge m s).bus.readSlots a.toNat = slotHandler s.bus.readSlots a.toNat ∧
        slotHandler (loadCartridge m s).bus.writeSlots a.toNat = slotHandler s.bus.writeSlots a.toNat)

/-! ### Headline statements -/

/-- The invariant holds after reset. -/
def Obligations.ResetMeetsInvariant : Prop := State.reset.Inv

/-- Every step keeps the invariant: the three memories stay in canonical form and inside their sizes, the wiring keeps
every redirect below its address (so that no access runs in a circle), the picture processor's counters stay in their
ranges, and the sprite buffer holds at most 8 entries of the OAM. -/
def Obligations.StepKeepsInvariant : Prop :=
  ∀ s t : State, s.Inv → step s = .next t → t.Inv
end

