-- ==== Sys2Proof/Laws/Memory.lean ====
section
/-! SUPPORT. The laws of a byte memory: a read after a write, and the canonical form kept by every write. -/

namespace Sys2Proof.Machine

@[simp] theorem Memory.read_nil (a : Nat) : Memory.read [] a = 0 := rfl

theorem Memory.read_of_lt : ∀ (m : Memory) (a : Nat), (∀ c ∈ m, a < c.1) → m.read a = 0
  | [], _, _ => rfl
  | (k, b) :: rest, a, h => by
    have hk : a < k := h (k, b) (by simp)
    simp only [Memory.read, if_neg (Nat.ne_of_gt hk)]
    exact Memory.read_of_lt rest a fun c hc => h c (by simp [hc])

theorem Memory.wf_cons {k : Nat} {b : Byte} {rest : Memory} :
    Memory.wf ((k, b) :: rest) ↔ (∀ c ∈ rest, k < c.1) ∧ b ≠ 0 ∧ Memory.wf rest := by
  simp only [Memory.wf, List.pairwise_cons, List.mem_cons, forall_eq_or_imp]
  tauto

theorem Memory.read_cons_eq (a : Nat) (v : Byte) (rest : Memory) (h : ∀ c ∈ rest, a < c.1) :
    (Memory.cons a v rest).read a = v := by
  unfold Memory.cons
  split
  · next hv => rw [hv]; exact Memory.read_of_lt rest a h
  · simp [Memory.read]

theorem Memory.read_cons_ne (a x : Nat) (v : Byte) (rest : Memory) (h : a ≠ x) :
    (Memory.cons a v rest).read x = rest.read x := by
  unfold Memory.cons
  split
  · rfl
  · simp [Memory.read, h]

/-- A write leaves every other address alone. -/
theorem Memory.read_write_ne : ∀ (m : Memory) (a x : Nat) (v : Byte), a ≠ x → (m.write a v).read x = m.read x
  | [], a, x, v, h => Memory.read_cons_ne a x v [] h
  | (k, b) :: rest, a, x, v, h => by
    unfold Memory.write
    split
    · exact Memory.read_cons_ne a x v _ h
    split
    · next hk => subst hk; rw [Memory.read_cons_ne _ _ _ _ h]; simp [Memory.read, h]
    · simp only [Memory.read, Memory.read_write_ne rest a x v h]

/-- A read after a write to the same address gives the byte written. -/
theorem Memory.read_write_eq : ∀ (m : Memory) (a : Nat) (v : Byte), m.wf → (m.write a v).read a = v
  | [], a, v, _ => Memory.read_cons_eq a v [] (by simp)
  | (k, b) :: rest, a, v, h => by
    obtain ⟨hlt, hb, hrest⟩ := Memory.wf_cons.mp h
    unfold Memory.write
    split
    · next hak =>
      refine Memory.read_cons_eq a v _ fun c hc => ?_
      rcases List.mem_cons.mp hc with rfl | hc
      · exact hak
      · exact Nat.lt_trans hak (hlt c hc)
    split
    · next hk => subst hk; exact Memory.read_cons_eq _ v _ hlt
    · next hk => simp only [Memory.read, if_neg (Ne.symm hk), Memory.read_write_eq rest a v hrest]

theorem Memory.write_forall (P : Host.Cell → Prop) : ∀ (m : Memory) (a : Nat) (v : Byte),
    (∀ c ∈ m, P c) → (v ≠ 0 → P (a, v)) → ∀ c ∈ m.write a v, P c
  | [], a, v, _, hv => by
    intro c hc
    unfold Memory.write Memory.cons at hc
    split at hc
    · simp at hc
    · next h => rw [List.mem_singleton.mp hc]; exact hv h
  | (k, b) :: rest, a, v, hm, hv => by
    intro c hc
    have hcons : ∀ tail : Memory, (∀ c ∈ tail, P c) → c ∈ Memory.cons a v tail → P c := by
      intro tail ht hc
      unfold Memory.cons at hc
      split at hc
      · exact ht c hc
      · next h =>
        rcases List.mem_cons.mp hc with rfl | hc
        · exact hv h
        · exact ht c hc
    unfold Memory.write at hc
    split at hc
    · exact hcons _ hm hc
    split at hc
    · exact hcons _ (fun c h => hm c (by simp [h])) hc
    · rcases List.mem_cons.mp hc with rfl | hc
      · exact hm _ (by simp)
      · exact Memory.write_forall P rest a v (fun c h => hm c (by simp [h])) hv c hc

theorem Memory.cons_wf (a : Nat) (v : Byte) (rest : Memory) (h : rest.wf) (ha : ∀ c ∈ rest, a < c.1) :
    (Memory.cons a v rest).wf := by
  unfold Memory.cons
  split
  · exact h
  · next hv => exact Memory.wf_cons.mpr ⟨ha, hv, h⟩

/-- Every write keeps the canonical form. -/
theorem Memory.write_wf : ∀ (m : Memory) (a : Nat) (v : Byte), m.wf → (m.write a v).wf
  | [], a, v, h => Memory.cons_wf a v [] h (by simp)
  | (k, b) :: rest, a, v, h => by
    obtain ⟨hlt, hb, hrest⟩ := Memory.wf_cons.mp h
    unfold Memory.write
    split
    · next hak =>
      refine Memory.cons_wf a v _ h fun c hc => ?_
      rcases List.mem_cons.mp hc with rfl | hc
      · exact hak
      · exact Nat.lt_trans hak (hlt c hc)
    split
    · next hk => subst hk; exact Memory.cons_wf _ v rest hrest hlt
    · next h1 h2 =>
      refine Memory.wf_cons.mpr ⟨?_, hb, Memory.write_wf rest a v hrest⟩
      exact Memory.write_forall (fun c => k < c.1) rest a v hlt fun _ => by show k < a; omega

/-- A write below the limit stays below it. -/
theorem Memory.write_within (limit : Nat) (m : Memory) (a : Nat) (v : Byte) (h : m.within limit) (ha : a < limit) :
    (m.write a v).within limit :=
  Memory.write_forall (fun c => c.1 < limit) m a v h fun _ => ha

/-- Two canonical memories that read alike are equal. -/
theorem Memory.ext_of_wf : ∀ (m n : Memory), m.wf → n.wf → (∀ a, m.read a = n.read a) → m = n
  | [], [], _, _, _ => rfl
  | [], (k, b) :: rest, _, hn, h => by
    have := h k
    simp only [Memory.read, if_pos] at this
    exact absurd this.symm (Memory.wf_cons.mp hn).2.1
  | (k, b) :: rest, [], hm, _, h => by
    have := h k
    simp only [Memory.read, if_pos] at this
    exact absurd this (Memory.wf_cons.mp hm).2.1
  | (k, b) :: m, (l, c) :: n, hm, hn, h => by
    obtain ⟨hml, hb, hmw⟩ := Memory.wf_cons.mp hm
    obtain ⟨hnl, hc, hnw⟩ := Memory.wf_cons.mp hn
    have hkl : k = l := by
      rcases Nat.lt_trichotomy k l with hlt | heq | hgt
      · have h1 := h k
        rw [Memory.read_of_lt ((l, c) :: n) k (by
          intro d hd
          rcases List.mem_cons.mp hd with rfl | hd
          · exact hlt
          · exact Nat.lt_trans hlt (hnl d hd))] at h1
        simp only [Memory.read, if_pos] at h1
        exact absurd h1 hb
      · exact heq
      · have h1 := h l
        rw [Memory.read_of_lt ((k, b) :: m) l (by
          intro d hd
          rcases List.mem_cons.mp hd with rfl | hd
          · exact hgt
          · exact Nat.lt_trans hgt (hml d hd))] at h1
        simp only [Memory.read, if_pos] at h1
        exact absurd h1.symm hc
    subst hkl
    have hbc : b = c := by simpa [Memory.read] using h k
    subst hbc
    have htail : m = n := Memory.ext_of_wf m n hmw hnw fun a => by
      by_cases hak : k = a
      · subst hak
        rw [Memory.read_of_lt m k hml, Memory.read_of_lt n k hnl]
      · simpa [Memory.read, hak] using h a
    rw [htail]

end Sys2Proof.Machine
end

