-- ==== Sys2Proof/Laws/State.lean ====
section
/-! SUPPORT. One lemma per field of State per named update, and per field of Cpu for the accounting of an instruction:
each is true by unfolding, and saves every later proof from unfolding the update. -/

namespace Sys2Proof.Machine

@[simp] theorem addStall_cpu (n : Nat) (s : State) : (addStall n s).cpu = s.cpu := rfl
@[simp] theorem addStall_lines (n : Nat) (s : State) : (addStall n s).lines = { s.lines with stall := s.lines.stall + n } := rfl
@[simp] theorem addStall_bus (n : Nat) (s : State) : (addStall n s).bus = s.bus := rfl
@[simp] theorem addStall_ppu (n : Nat) (s : State) : (addStall n s).ppu = s.ppu := rfl
@[simp] theorem addStall_mapper (n : Nat) (s : State) : (addStall n s).mapper = s.mapper := rfl
@[simp] theorem addStall_pad1 (n : Nat) (s : State) : (addStall n s).pad1 = s.pad1 := rfl
@[simp] theorem addStall_pad2 (n : Nat) (s : State) : (addStall n s).pad2 = s.pad2 := rfl
@[simp] theorem addStall_audio (n : Nat) (s : State) : (addStall n s).audio = s.audio := rfl
@[simp] theorem addStall_freeCount (n : Nat) (s : State) : (addStall n s).freeCount = s.freeCount := rfl

@[simp] theorem triggerNmi_cpu (s : State) : (triggerNmi s).cpu = s.cpu := rfl
@[simp] theorem triggerNmi_lines (s : State) : (triggerNmi s).lines = { s.lines with nmiPending := true } := rfl
@[simp] theorem triggerNmi_bus (s : State) : (triggerNmi s).bus = s.bus := rfl
@[simp] theorem triggerNmi_ppu (s : State) : (triggerNmi s).ppu = s.ppu := rfl
@[simp] theorem triggerNmi_mapper (s : State) : (triggerNmi s).mapper = s.mapper := rfl
@[simp] theorem triggerNmi_pad1 (s : State) : (triggerNmi s).pad1 = s.pad1 := rfl
@[simp] theorem triggerNmi_pad2 (s : State) : (triggerNmi s).pad2 = s.pad2 := rfl
@[simp] theorem triggerNmi_audio (s : State) : (triggerNmi s).audio = s.audio := rfl
@[simp] theorem triggerNmi_freeCount (s : State) : (triggerNmi s).freeCount = s.freeCount := rfl

@[simp] theorem requestIrq_cpu (k : IrqSource) (s : State) : (requestIrq k s).cpu = s.cpu := rfl
@[simp] theorem requestIrq_lines (k : IrqSource) (s : State) : (requestIrq k s).lines = { s.lines with irq := s.lines.irq.request k } := rfl
@[simp] theorem requestIrq_bus (k : IrqSource) (s : State) : (requestIrq k s).bus = s.bus := rfl
@[simp] theorem requestIrq_ppu (k : IrqSource) (s : State) : (requestIrq k s).ppu = s.ppu := rfl
@[simp] theorem requestIrq_mapper (k : IrqSource) (s : State) : (requestIrq k s).mapper = s.mapper := rfl
@[simp] theorem requestIrq_pad1 (k : IrqSource) (s : State) : (requestIrq k s).pad1 = s.pad1 := rfl
@[simp] theorem requestIrq_pad2 (k : IrqSource) (s : State) : (requestIrq k s).pad2 = s.pad2 := rfl
@[simp] theorem requestIrq_audio (k : IrqSource) (s : State) : (requestIrq k s).audio = s.audio := rfl
@[simp] theorem requestIrq_freeCount (k : IrqSource) (s : State) : (requestIrq k s).freeCount = s.freeCount := rfl

@[simp] theorem cancelIrq_cpu (k : IrqSource) (s : State) : (cancelIrq k s).cpu = s.cpu := rfl
@[simp] theorem cancelIrq_lines (k : IrqSource) (s : State) : (cancelIrq k s).lines = { s.lines with irq := s.lines.irq.cancel k } := rfl
@[simp] theorem cancelIrq_bus (k : IrqSource) (s : State) : (cancelIrq k s).bus = s.bus := rfl
@[simp] theorem cancelIrq_ppu (k : IrqSource) (s : State) : (cancelIrq k s).ppu = s.ppu := rfl
@[simp] theorem cancelIrq_mapper (k : IrqSource) (s : State) : (cancelIrq k s).mapper = s.mapper := rfl
@[simp] theorem cancelIrq_pad1 (k : IrqSource) (s : State) : (cancelIrq k s).pad1 = s.pad1 := rfl
@[simp] theorem cancelIrq_pad2 (k : IrqSource) (s : State) : (cancelIrq k s).pad2 = s.pad2 := rfl
@[simp] theorem cancelIrq_audio (k : IrqSource) (s : State) : (cancelIrq k s).audio = s.audio := rfl
@[simp] theorem cancelIrq_freeCount (k : IrqSource) (s : State) : (cancelIrq k s).freeCount = s.freeCount := rfl

@[simp] theorem configureMemoryRead_cpu (a : Word) (h : Handler) (s : State) : (configureMemoryRead a h s).cpu = s.cpu := rfl
@[simp] theorem configureMemoryRead_lines (a : Word) (h : Handler) (s : State) : (configureMemoryRead a h s).lines = s.lines := rfl
@[simp] theorem configureMemoryRead_bus (a : Word) (h : Handler) (s : State) : (configureMemoryRead a h s).bus = { s.bus with readSlots := ⟨a.toNat, a.toNat, h⟩ :: s.bus.readSlots } := rfl
@[simp] theorem configureMemoryRead_ppu (a : Word) (h : Handler) (s : State) : (configureMemoryRead a h s).ppu = s.ppu := rfl
@[simp] theorem configureMemoryRead_mapper (a : Word) (h : Handler) (s : State) : (configureMemoryRead a h s).mapper = s.mapper := rfl
@[simp] theorem configureMemoryRead_pad1 (a : Word) (h : Handler) (s : State) : (configureMemoryRead a h s).pad1 = s.pad1 := rfl
@[simp] theorem configureMemoryRead_pad2 (a : Word) (h : Handler) (s : State) : (configureMemoryRead a h s).pad2 = s.pad2 := rfl
@[simp] theorem configureMemoryRead_audio (a : Word) (h : Handler) (s : State) : (configureMemoryRead a h s).audio = s.audio := rfl
@[simp] theorem configureMemoryRead_freeCount (a : Word) (h : Handler) (s : State) : (configureMemoryRead a h s).freeCount = s.freeCount := rfl

@[simp] theorem configureMemoryWrite_cpu (a : Word) (h : Handler) (s : State) : (configureMemoryWrite a h s).cpu = s.cpu := rfl
@[simp] theorem configureMemoryWrite_lines (a : Word) (h : Handler) (s : State) : (configureMemoryWrite a h s).lines = s.lines := rfl
@[simp] theorem configureMemoryWrite_bus (a : Word) (h : Handler) (s : State) : (configureMemoryWrite a h s).bus = { s.bus with writeSlots := ⟨a.toNat, a.toNat, h⟩ :: s.bus.writeSlots } := rfl
@[simp] theorem configureMemoryWrite_ppu (a : Word) (h : Handler) (s : State) : (configureMemoryWrite a h s).ppu = s.ppu := rfl
@[simp] theorem configureMemoryWrite_mapper (a : Word) (h : Handler) (s : State) : (configureMemoryWrite a h s).mapper = s.mapper := rfl
@[simp] theorem configureMemoryWrite_pad1 (a : Word) (h : Handler) (s : State) : (configureMemoryWrite a h s).pad1 = s.pad1 := rfl
@[simp] theorem configureMemoryWrite_pad2 (a : Word) (h : Handler) (s : State) : (configureMemoryWrite a h s).pad2 = s.pad2 := rfl
@[simp] theorem configureMemoryWrite_audio (a : Word) (h : Handler) (s : State) : (configureMemoryWrite a h s).audio = s.audio := rfl
@[simp] theorem configureMemoryWrite_freeCount (a : Word) (h : Handler) (s : State) : (configureMemoryWrite a h s).freeCount = s.freeCount := rfl

@[simp] theorem configureMemoryAccessRange_cpu (a b : Word) (h k : Handler) (s : State) : (configureMemoryAccessRange a b h k s).cpu = s.cpu := rfl
@[simp] theorem configureMemoryAccessRange_lines (a b : Word) (h k : Handler) (s : State) : (configureMemoryAccessRange a b h k s).lines = s.lines := rfl
@[simp] theorem configureMemoryAccessRange_bus (a b : Word) (h k : Handler) (s : State) : (configureMemoryAccessRange a b h k s).bus = { s.bus with readSlots := ⟨a.toNat, b.toNat, h⟩ :: s.bus.readSlots, writeSlots := ⟨a.toNat, b.toNat, k⟩ :: s.bus.writeSlots } := rfl
@[simp] theorem configureMemoryAccessRange_ppu (a b : Word) (h k : Handler) (s : State) : (configureMemoryAccessRange a b h k s).ppu = s.ppu := rfl
@[simp] theorem configureMemoryAccessRange_mapper (a b : Word) (h k : Handler) (s : State) : (configureMemoryAccessRange a b h k s).mapper = s.mapper := rfl
@[simp] theorem configureMemoryAccessRange_pad1 (a b : Word) (h k : Handler) (s : State) : (configureMemoryAccessRange a b h k s).pad1 = s.pad1 := rfl
@[simp] theorem configureMemoryAccessRange_pad2 (a b : Word) (h k : Handler) (s : State) : (configureMemoryAccessRange a b h k s).pad2 = s.pad2 := rfl
@[simp] theorem configureMemoryAccessRange_audio (a b : Word) (h k : Handler) (s : State) : (configureMemoryAccessRange a b h k s).audio = s.audio := rfl
@[simp] theorem configureMemoryAccessRange_freeCount (a b : Word) (h k : Handler) (s : State) : (configureMemoryAccessRange a b h k s).freeCount = s.freeCount := rfl

@[simp] theorem takeFreeByte_cpu (s : State) : (takeFreeByte s).2.cpu = s.cpu := rfl
@[simp] theorem takeFreeByte_lines (s : State) : (takeFreeByte s).2.lines = s.lines := rfl
@[simp] theorem takeFreeByte_bus (s : State) : (takeFreeByte s).2.bus = s.bus := rfl
@[simp] theorem takeFreeByte_ppu (s : State) : (takeFreeByte s).2.ppu = s.ppu := rfl
@[simp] theorem takeFreeByte_mapper (s : State) : (takeFreeByte s).2.mapper = s.mapper := rfl
@[simp] theorem takeFreeByte_pad1 (s : State) : (takeFreeByte s).2.pad1 = s.pad1 := rfl
@[simp] theorem takeFreeByte_pad2 (s : State) : (takeFreeByte s).2.pad2 = s.pad2 := rfl
@[simp] theorem takeFreeByte_audio (s : State) : (takeFreeByte s).2.audio = s.audio := rfl
@[simp] theorem takeFreeByte_freeCount (s : State) : (takeFreeByte s).2.freeCount = s.freeCount + 1 := rfl

@[simp] theorem strobeControllers_cpu (s : State) : (strobeControllers s).cpu = s.cpu := rfl
@[simp] theorem strobeControllers_lines (s : State) : (strobeControllers s).lines = s.lines := rfl
@[simp] theorem strobeControllers_bus (s : State) : (strobeControllers s).bus = s.bus := rfl
@[simp] theorem strobeControllers_ppu (s : State) : (strobeControllers s).ppu = s.ppu := rfl
@[simp] theorem strobeControllers_mapper (s : State) : (strobeControllers s).mapper = s.mapper := rfl
@[simp] theorem strobeControllers_pad1 (s : State) : (strobeControllers s).pad1 = { s.pad1 with strobes := s.pad1.strobes + 1 } := rfl
@[simp] theorem strobeControllers_pad2 (s : State) : (strobeControllers s).pad2 = { s.pad2 with strobes := s.pad2.strobes + 1 } := rfl
@[simp] theorem strobeControllers_audio (s : State) : (strobeControllers s).audio = s.audio := rfl
@[simp] theorem strobeControllers_freeCount (s : State) : (strobeControllers s).freeCount = s.freeCount := rfl

@[simp] theorem advanceV_cpu (s : State) : (advanceV s).cpu = s.cpu := rfl
@[simp] theorem advanceV_lines (s : State) : (advanceV s).lines = s.lines := rfl
@[simp] theorem advanceV_bus (s : State) : (advanceV s).bus = s.bus := rfl
@[simp] theorem advanceV_ppu (s : State) : (advanceV s).ppu = { s.ppu with v := s.ppu.v + s.ppu.increment } := rfl
@[simp] theorem advanceV_mapper (s : State) : (advanceV s).mapper = s.mapper := rfl
@[simp] theorem advanceV_pad1 (s : State) : (advanceV s).pad1 = s.pad1 := rfl
@[simp] theorem advanceV_pad2 (s : State) : (advanceV s).pad2 = s.pad2 := rfl
@[simp] theorem advanceV_audio (s : State) : (advanceV s).audio = s.audio := rfl
@[simp] theorem advanceV_freeCount (s : State) : (advanceV s).freeCount = s.freeCount := rfl

@[simp] theorem setAccessingSprites_cpu (on : Bool) (s : State) : (setAccessingSprites on s).cpu = s.cpu := rfl
@[simp] theorem setAccessingSprites_lines (on : Bool) (s : State) : (setAccessingSprites on s).lines = s.lines := rfl
@[simp] theorem setAccessingSprites_bus (on : Bool) (s : State) : (setAccessingSprites on s).bus = s.bus := rfl
@[simp] theorem setAccessingSprites_ppu (on : Bool) (s : State) : (setAccessingSprites on s).ppu = s.ppu := rfl
@[simp] theorem setAccessingSprites_mapper (on : Bool) (s : State) : (setAccessingSprites on s).mapper = { s.mapper with accessingSprites := on } := rfl
@[simp] theorem setAccessingSprites_pad1 (on : Bool) (s : State) : (setAccessingSprites on s).pad1 = s.pad1 := rfl
@[simp] theorem setAccessingSprites_pad2 (on : Bool) (s : State) : (setAccessingSprites on s).pad2 = s.pad2 := rfl
@[simp] theorem setAccessingSprites_audio (on : Bool) (s : State) : (setAccessingSprites on s).audio = s.audio := rfl
@[simp] theorem setAccessingSprites_freeCount (on : Bool) (s : State) : (setAccessingSprites on s).freeCount = s.freeCount := rfl

@[simp] theorem stallUnit_cpu (s : State) : (stallUnit s).cpu = { s.cpu with cycles := s.cpu.cycles + 1 } := rfl
@[simp] theorem stallUnit_lines (s : State) : (stallUnit s).lines = { s.lines with stall := s.lines.stall - 1 } := rfl
@[simp] theorem stallUnit_bus (s : State) : (stallUnit s).bus = s.bus := rfl
@[simp] theorem stallUnit_ppu (s : State) : (stallUnit s).ppu = s.ppu := rfl
@[simp] theorem stallUnit_mapper (s : State) : (stallUnit s).mapper = s.mapper := rfl
@[simp] theorem stallUnit_pad1 (s : State) : (stallUnit s).pad1 = s.pad1 := rfl
@[simp] theorem stallUnit_pad2 (s : State) : (stallUnit s).pad2 = s.pad2 := rfl
@[simp] theorem stallUnit_audio (s : State) : (stallUnit s).audio = s.audio := rfl
@[simp] theorem stallUnit_freeCount (s : State) : (stallUnit s).freeCount = s.freeCount := rfl

@[simp] theorem wipe_cpu (s : State) : (wipe s).cpu = s.cpu := rfl
@[simp] theorem wipe_lines (s : State) : (wipe s).lines = s.lines := rfl
@[simp] theorem wipe_bus (s : State) : (wipe s).bus = { s.bus with backing := [] } := rfl
@[simp] theorem wipe_ppu (s : State) : (wipe s).ppu = s.ppu := rfl
@[simp] theorem wipe_mapper (s : State) : (wipe s).mapper = s.mapper := rfl
@[simp] theorem wipe_pad1 (s : State) : (wipe s).pad1 = s.pad1 := rfl
@[simp] theorem wipe_pad2 (s : State) : (wipe s).pad2 = s.pad2 := rfl
@[simp] theorem wipe_audio (s : State) : (wipe s).audio = s.audio := rfl
@[simp] theorem wipe_freeCount (s : State) : (wipe s).freeCount = s.freeCount := rfl

@[simp] theorem accountFor_a (t : Timing) (k : Bool) (c : Cpu) : (accountFor t k c).a = c.a := rfl
@[simp] theorem accountFor_x (t : Timing) (k : Bool) (c : Cpu) : (accountFor t k c).x = c.x := rfl
@[simp] theorem accountFor_y (t : Timing) (k : Bool) (c : Cpu) : (accountFor t k c).y = c.y := rfl
@[simp] theorem accountFor_sp (t : Timing) (k : Bool) (c : Cpu) : (accountFor t k c).sp = c.sp := rfl
@[simp] theorem accountFor_p (t : Timing) (k : Bool) (c : Cpu) : (accountFor t k c).p = c.p := rfl
@[simp] theorem accountFor_pc (t : Timing) (k : Bool) (c : Cpu) :
    (accountFor t k c).pc = c.pc + BitVec.ofNat 16 t.size := rfl
@[simp] theorem accountFor_cycles (t : Timing) (k : Bool) (c : Cpu) :
    (accountFor t k c).cycles = c.cycles + t.cycles + (if t.penalty && k then 1 else 0) := rfl

/-- `SetZN` leaves the other flags. -/
@[simp] theorem setZN_c (v : Byte) (p : Flags) : (setZN v p).c = p.c := rfl
@[simp] theorem setZN_i (v : Byte) (p : Flags) : (setZN v p).i = p.i := rfl
@[simp] theorem setZN_d (v : Byte) (p : Flags) : (setZN v p).d = p.d := rfl
@[simp] theorem setZN_v (v : Byte) (p : Flags) : (setZN v p).v = p.v := rfl
@[simp] theorem setZN_z (v : Byte) (p : Flags) : (setZN v p).z = (v == 0) := rfl
@[simp] theorem setZN_n (v : Byte) (p : Flags) : (setZN v p).n = v.getLsbD 7 := rfl

end Sys2Proof.Machine
end

