-- ==== Sys2Proof/Laws/Access.lean ====
section
/-! SUPPORT. What one bus access can change: a read leaves the processor's registers and the backing array alone; a write
leaves the registers alone and stores at most one byte of the backing array, where `storedAt` says. -/

namespace Sys2Proof.Machine

/-- What no handler of the bus changes: the processor's registers and, for a read, the backing array. -/
structure Quiet (s t : State) : Prop where
  cpu     : t.cpu = s.cpu
  backing : t.bus.backing = s.bus.backing

theorem Quiet.refl (s : State) : Quiet s s := ⟨rfl, rfl⟩

theorem Quiet.trans {s t u : State} (h : Quiet s t) (k : Quiet t u) : Quiet s u :=
  ⟨k.cpu.trans h.cpu, k.backing.trans h.backing⟩

theorem Quiet.after {s t u : State} (k : Quiet t u) (h : Quiet s t) : Quiet s u := h.trans k

theorem foldl_quiet {α : Type} (f : State → α → State) (hf : ∀ s x, Quiet s (f s x)) :
    ∀ (l : List α) (s : State), Quiet s (l.foldl f s)
  | [], s => Quiet.refl s
  | x :: rest, s => (hf s x).trans (foldl_quiet f hf rest (f s x))

theorem applyMapperAction_quiet (s : State) (x : MapperAction) : Quiet s (applyMapperAction s x) := by
  cases x <;> exact ⟨rfl, rfl⟩

theorem applyMapperActions_quiet (l : List MapperAction) (s : State) : Quiet s (applyMapperActions l s) :=
  foldl_quiet _ applyMapperAction_quiet l s

theorem applyMapperWriteAction_quiet (s : State) (x : MapperWriteAction) : Quiet s (applyMapperWriteAction s x) := by
  cases x with
  | signal x => exact applyMapperAction_quiet s x
  | _ => exact ⟨rfl, rfl⟩

theorem applyMapperWriteActions_quiet (l : List MapperWriteAction) (s : State) :
    Quiet s (applyMapperWriteActions l s) :=
  foldl_quiet _ applyMapperWriteAction_quiet l s

theorem applyApuLine_quiet (s : State) (x : ApuLine) : Quiet s (applyApuLine s x) := by
  cases x <;> exact ⟨rfl, rfl⟩

theorem mapperRead_quiet (s : State) : Quiet s (mapperRead s).2 := by
  unfold mapperRead
  split
  · exact ⟨rfl, rfl⟩
  · exact (applyMapperActions_quiet _ _).after ⟨rfl, rfl⟩

theorem mapperWrite_quiet (s : State) : Quiet s (mapperWrite s) := by
  unfold mapperWrite
  split
  · exact Quiet.refl s
  · exact (applyMapperWriteActions_quiet _ _).after ⟨rfl, rfl⟩

theorem mapperChrRead_quiet (s : State) : Quiet s (mapperChrRead s).2 := by
  unfold mapperChrRead
  split
  · exact ⟨rfl, rfl⟩
  · exact (applyMapperActions_quiet _ _).after ⟨rfl, rfl⟩

theorem mapperChrWrite_quiet (s : State) : Quiet s (mapperChrWrite s) := by
  unfold mapperChrWrite
  split
  · exact Quiet.refl s
  · exact (applyMapperWriteActions_quiet _ _).after ⟨rfl, rfl⟩

theorem mapperVideo_quiet (s : State) : Quiet s (mapperVideo s) := by
  unfold mapperVideo
  split
  · exact (applyMapperActions_quiet _ _).after ⟨rfl, rfl⟩
  · exact Quiet.refl s

theorem audioRead_quiet (s : State) : Quiet s (audioRead s).2 := by
  unfold audioRead
  split
  · exact ⟨rfl, rfl⟩
  · exact (foldl_quiet _ applyApuLine_quiet _ _).after ⟨rfl, rfl⟩

theorem audioWrite_quiet (s : State) : Quiet s (audioWrite s) := by
  unfold audioWrite
  split
  · exact Quiet.refl s
  · exact (foldl_quiet _ applyApuLine_quiet _ _).after ⟨rfl, rfl⟩

theorem controllerRead_quiet (k : Bool) (s : State) : Quiet s (controllerRead k s).2 := by
  unfold controllerRead
  split
  · exact ⟨rfl, rfl⟩
  · cases k <;> exact ⟨rfl, rfl⟩

theorem ppuRead_quiet (a : Nat) (s : State) : Quiet s (ppuRead a s).2 := by
  unfold ppuRead
  split
  · exact mapperChrRead_quiet s
  · exact Quiet.refl s

theorem ppuWrite_quiet (a : Nat) (b : Byte) (s : State) : Quiet s (ppuWrite a b s) := by
  unfold ppuWrite
  split
  · exact mapperChrWrite_quiet s
  · exact ⟨rfl, rfl⟩

/-- A change of the picture processor alone is quiet. -/
theorem Quiet.setPpu {s t : State} (h : Quiet s t) (p : Ppu) : Quiet s { t with ppu := p } := ⟨h.cpu, h.backing⟩

theorem readData_quiet (s : State) : Quiet s (readData s).2 := by
  unfold readData
  dsimp only
  split
  · exact ((ppuRead_quiet _ s).setPpu _).setPpu _
  · exact (((ppuRead_quiet _ s).trans (ppuRead_quiet _ _)).setPpu _).setPpu _

theorem readPort_quiet (n : Nat) (s : State) : Quiet s (readPort n s).2 := by
  unfold readPort
  split
  · exact ⟨rfl, rfl⟩
  · exact Quiet.refl s
  · exact readData_quiet s
  · exact ⟨rfl, rfl⟩

theorem writePort_quiet (n : Nat) (d : Byte) (s : State) : Quiet s (writePort n d s) := by
  unfold writePort
  split
  case h_7 => exact (ppuWrite_quiet _ d s).setPpu _
  all_goals exact ⟨rfl, rfl⟩

theorem readThrough_quiet (h : Handler) (a : Nat) (s : State) : Quiet s (readThrough h a s).2 := by
  cases h with
  | ram => exact Quiet.refl s
  | redirect _ _ => exact Quiet.refl s
  | ppuPort => exact readPort_quiet _ s
  | oamDma => exact ⟨rfl, rfl⟩
  | apu => exact audioRead_quiet s
  | controller k => exact controllerRead_quiet k s
  | mapper => exact mapperRead_quiet s
  | ignored => exact ⟨rfl, rfl⟩

/-- A bus read changes neither the processor's registers nor the backing array. -/
theorem memRead_quiet (a : Word) (s : State) : Quiet s (memRead a s).2 := readThrough_quiet _ _ s

@[simp] theorem memRead_cpu (a : Word) (s : State) : (memRead a s).2.cpu = s.cpu := (memRead_quiet a s).cpu

@[simp] theorem memRead_backing (a : Word) (s : State) : (memRead a s).2.bus.backing = s.bus.backing :=
  (memRead_quiet a s).backing

theorem oamDmaByte_quiet (v : Byte) (start : Nat) (s : State) (i : Nat) : Quiet s (oamDmaByte v start s i) :=
  (memRead_quiet _ s).setPpu _

theorem oamDma_quiet (v : Byte) (s : State) : Quiet s (oamDma v s) := by
  unfold oamDma
  generalize List.range 256 = l
  have h := foldl_quiet _ (oamDmaByte_quiet v s.ppu.oamAddr.toNat) l s
  exact ⟨h.cpu, h.backing⟩

/-- A bus write leaves the processor's registers alone. -/
@[simp] theorem memWrite_cpu (a : Word) (v : Byte) (s : State) : (memWrite a v s).cpu = s.cpu := by
  unfold memWrite writeThrough
  split
  · rfl
  · rfl
  · exact (writePort_quiet _ v s).cpu
  · exact (oamDma_quiet v s).cpu
  · exact (audioWrite_quiet s).cpu
  · rfl
  · exact (mapperWrite_quiet s).cpu
  · rfl

/-- A bus write stores where `storedAt` says, and nowhere else in the backing array. -/
theorem memWrite_backing (a : Word) (v : Byte) (s : State) :
    (memWrite a v s).bus.backing =
      match storedAt a s with
      | some c => s.bus.backing.write c v
      | none => s.bus.backing := by
  unfold memWrite writeThrough storedAt
  cases (targetOf s.bus.writeSlots a).2 with
  | ram => rfl
  | redirect _ _ => rfl
  | ppuPort => exact (writePort_quiet _ v s).backing
  | oamDma => exact (oamDma_quiet v s).backing
  | apu => exact (audioWrite_quiet s).backing
  | controller _ => rfl
  | mapper => exact (mapperWrite_quiet s).backing
  | ignored => rfl

/-- A byte outside the stored address reads as before a write. -/
theorem memWrite_read_other (a : Word) (v : Byte) (s : State) (x : Nat) (h : storedAt a s ≠ some x) :
    (memWrite a v s).bus.backing.read x = s.bus.backing.read x := by
  rw [memWrite_backing]
  cases hc : storedAt a s with
  | none => rfl
  | some c =>
    exact Memory.read_write_ne _ _ _ _ fun hx => h (by rw [hc, hx])

@[simp] theorem read16_cpu (a : Word) (s : State) : (read16 a s).2.cpu = s.cpu := by simp [read16]
@[simp] theorem read16_backing (a : Word) (s : State) : (read16 a s).2.bus.backing = s.bus.backing := by
  simp [read16]
@[simp] theorem read16Page_cpu (a : Word) (s : State) : (read16Page a s).2.cpu = s.cpu := by simp [read16Page]
@[simp] theorem read16Page_backing (a : Word) (s : State) : (read16Page a s).2.bus.backing = s.bus.backing := by
  simp [read16Page]

@[simp] theorem push_cpu (v : Byte) (s : State) : (push v s).cpu = { s.cpu with sp := s.cpu.sp - 1 } := by
  simp [push]
@[simp] theorem push16_cpu (w : Word) (s : State) : (push16 w s).cpu = { s.cpu with sp := s.cpu.sp - 1 - 1 } := by
  simp [push16]
@[simp] theorem pull_cpu (s : State) : (pull s).2.cpu = { s.cpu with sp := s.cpu.sp + 1 } := by simp [pull]
@[simp] theorem pull_backing (s : State) : (pull s).2.bus.backing = s.bus.backing := by simp [pull]
@[simp] theorem pull16_cpu (s : State) : (pull16 s).2.cpu = { s.cpu with sp := s.cpu.sp + 1 + 1 } := by
  simp [pull16]
@[simp] theorem pull16_backing (s : State) : (pull16 s).2.bus.backing = s.bus.backing := by simp [pull16]

/-- Resolving an operand changes neither the registers nor the backing array. -/
@[simp] theorem resolve_cpu (o : Operand) (s : State) : (resolve o s).2.cpu = s.cpu := by cases o <;> simp [resolve]
@[simp] theorem resolve_backing (o : Operand) (s : State) : (resolve o s).2.bus.backing = s.bus.backing := by
  cases o <;> simp [resolve]

@[simp] theorem prepare_ea (o : Operand) (t : Timing) (s : State) : (prepare o t s).1 = (resolve o s).1.ea := rfl
@[simp] theorem prepare_cpu (o : Operand) (t : Timing) (s : State) :
    (prepare o t s).2.cpu = accountFor t (resolve o s).1.crossed s.cpu := by simp [prepare]
@[simp] theorem prepare_backing (o : Operand) (t : Timing) (s : State) :
    (prepare o t s).2.bus.backing = s.bus.backing := by simp [prepare]

@[simp] theorem readOperand_cpu (o : Operand) (ea : Word) (s : State) : (readOperand o ea s).2.cpu = s.cpu := by
  cases o <;> simp [readOperand]
@[simp] theorem readOperand_backing (o : Operand) (ea : Word) (s : State) :
    (readOperand o ea s).2.bus.backing = s.bus.backing := by
  cases o <;> simp [readOperand]

/-- The registers after an instruction that reads its operand. -/
theorem readOp_cpu (f : Byte → Cpu → Cpu) (o : Operand) (t : Timing) (s : State) :
    (readOp f o t s).cpu =
      f (readOperand o (resolve o s).1.ea (prepare o t s).2).1 (accountFor t (resolve o s).1.crossed s.cpu) := by
  simp [readOp]

/-- An instruction that reads its operand stores nothing. -/
@[simp] theorem readOp_backing (f : Byte → Cpu → Cpu) (o : Operand) (t : Timing) (s : State) :
    (readOp f o t s).bus.backing = s.bus.backing := by simp [readOp]

/-- The registers after a store: only `PC` and `cycles` change. -/
@[simp] theorem storeOp_cpu (reg : Cpu → Byte) (o : Operand) (t : Timing) (s : State) :
    (storeOp reg o t s).cpu = accountFor t (resolve o s).1.crossed s.cpu := by simp [storeOp]

/-- The registers after an instruction of the implied mode. -/
@[simp] theorem registerOp_cpu (f : Cpu → Cpu) (t : Timing) (s : State) :
    (registerOp f t s).cpu = f (accountFor t false s.cpu) := by simp [registerOp, resolve]

@[simp] theorem registerOp_backing (f : Cpu → Cpu) (t : Timing) (s : State) :
    (registerOp f t s).bus.backing = s.bus.backing := by simp [registerOp]

/-- Entering a vector: what happens to the registers (R307). -/
theorem enterVector_cpu (vector : Word) (b4 : Bool) (s : State) :
    (enterVector vector b4 s).cpu =
      { s.cpu with
        sp := s.cpu.sp - 1 - 1 - 1
        p := { s.cpu.p with i := true }
        pc := (enterVector vector b4 s).cpu.pc } := by
  simp [enterVector]

end Sys2Proof.Machine
end

