-- ==== Sys2Proof/Laws/Bits.lean ====
section
/-! SUPPORT. The bytes of a word as numbers, the page of an address, and the fields of the picture processor's 15-bit
scroll registers. -/

namespace Sys2Proof.Machine

theorem wordOfBytes_toNat (lo hi : Byte) : (wordOfBytes lo hi).toNat = lo.toNat + 256 * hi.toNat := by
  unfold wordOfBytes
  have hl := lo.isLt
  rw [BitVec.toNat_append, Nat.shiftLeft_eq, Nat.mul_comm, ← Nat.two_pow_add_eq_or_of_lt (i := 8) hl hi.toNat]
  omega

theorem loByte_toNat (w : Word) : (loByte w).toNat = w.toNat % 256 := by simp [loByte]

theorem hiByte_toNat (w : Word) : (hiByte w).toNat = w.toNat / 256 := by
  have hw := w.isLt
  simp only [hiByte, BitVec.toNat_setWidth, BitVec.toNat_ushiftRight, Nat.shiftRight_eq_div_pow]
  omega

/-- R54: a word is put together from its own bytes. -/
theorem wordOfBytes_lo_hi (w : Word) : wordOfBytes (loByte w) (hiByte w) = w := by
  apply BitVec.eq_of_toNat_eq
  rw [wordOfBytes_toNat, loByte_toNat, hiByte_toNat]
  omega

theorem loByte_wordOfBytes (lo hi : Byte) : loByte (wordOfBytes lo hi) = lo := by
  apply BitVec.eq_of_toNat_eq
  have hl := lo.isLt
  rw [loByte_toNat, wordOfBytes_toNat]
  omega

theorem hiByte_wordOfBytes (lo hi : Byte) : hiByte (wordOfBytes lo hi) = hi := by
  apply BitVec.eq_of_toNat_eq
  have hl := lo.isLt
  rw [hiByte_toNat, wordOfBytes_toNat]
  omega

/-- R55: the next address inside a page. -/
theorem nextInPage_toNat (a : Word) : (nextInPage a).toNat = 256 * (a.toNat / 256) + (a.toNat % 256 + 1) % 256 := by
  have h1 : (1 : Byte).toNat = 1 := rfl
  rw [nextInPage, wordOfBytes_toNat, hiByte_toNat, BitVec.toNat_add, loByte_toNat, h1]
  omega

/-- R112: two addresses are in different pages when their page numbers differ. -/
theorem pagesDiffer_iff (a b : Word) : pagesDiffer a b = true ↔ a.toNat / 256 ≠ b.toNat / 256 := by
  unfold pagesDiffer
  rw [bne_iff_ne, ne_eq, ← BitVec.toNat_inj, hiByte_toNat, hiByte_toNat]

/-- One bit of a register after a field of it was set. -/
theorem getLsbD_setField (lo width value : Nat) (t : BitVec 15) (i : Nat) :
    (setField lo width value t).getLsbD i =
      if lo ≤ i ∧ i < lo + width ∧ i < 15 then value.testBit (i - lo) else t.getLsbD i := by
  have ht : 15 ≤ i → t.getLsbD i = false := fun h => BitVec.getLsbD_of_ge t i h
  unfold setField
  simp only [BitVec.getLsbD_or, BitVec.getLsbD_and, BitVec.getLsbD_not, BitVec.getLsbD_ofNat]
  rw [Nat.mul_comm, Nat.mul_comm value, Nat.testBit_two_pow_mul, Nat.testBit_two_pow_mul, Nat.testBit_two_pow_sub_one]
  by_cases h3 : i < 15
  · by_cases h1 : lo ≤ i
    · by_cases h2 : i < lo + width
      · simp [h1, h2, h3, show i - lo < width by omega]
      · simp [h1, h2, h3, show ¬ i - lo < width by omega]
    · simp [h1, h3]
  · simp [h3, ht (by omega)]

theorem testBit_field (lo width : Nat) (t : BitVec 15) (j : Nat) :
    (field lo width t).testBit j = (decide (j < width) && t.getLsbD (lo + j)) := by
  rw [field, Nat.testBit_mod_two_pow, Nat.testBit_div_two_pow, Nat.add_comm, BitVec.testBit_toNat]

/-- A field that was set reads as the value set, cut to its width. -/
theorem field_setField_same (lo width value : Nat) (t : BitVec 15) (h : lo + width ≤ 15) :
    field lo width (setField lo width value t) = value % 2 ^ width := by
  apply Nat.eq_of_testBit_eq
  intro j
  rw [testBit_field, getLsbD_setField, Nat.testBit_mod_two_pow]
  by_cases hj : j < width
  · rw [if_pos (by omega), Nat.add_sub_cancel_left]
  · simp [hj]

/-- Setting a field leaves every field outside it alone. -/
theorem field_setField_other (lo width value l w : Nat) (t : BitVec 15) (h : l + w ≤ lo ∨ lo + width ≤ l) :
    field l w (setField lo width value t) = field l w t := by
  apply Nat.eq_of_testBit_eq
  intro j
  rw [testBit_field, testBit_field, getLsbD_setField]
  by_cases hj : j < w
  · rw [if_neg (by omega)]
  · simp [hj]

end Sys2Proof.Machine
end

