-- ==== Sys2Proof/Laws/Exec.lean ====
section
/-! SUPPORT. What `exec` does with an instruction of each mnemonic: its operation on the instruction's own operand and
timing, so that a proof about a mnemonic meets its addressing modes once; and the shapes of the read-modify-write
instructions and of the branches. -/

namespace Sys2Proof.Machine

/-- An outcome that is a next state is that state. -/
theorem next_inj {s t : State} (h : (Host.Outcome.next s : Result) = .next t) : s = t := by cases h; rfl

/-- The operation of a mnemonic, on an operand and a timing. -/
def operationOf (m : Mnemonic) (o : Operand) (t : Timing) (s : State) : State :=
  match m with
  | .lda => opLda o t s
  | .ldx => opLdx o t s
  | .ldy => opLdy o t s
  | .sta => opSta o t s
  | .stx => opStx o t s
  | .sty => opSty o t s
  | .adc => opAdc o t s
  | .sbc => opSbc o t s
  | .cmp => opCmp o t s
  | .cpx => opCpx o t s
  | .cpy => opCpy o t s
  | .and => opAnd o t s
  | .ora => opOra o t s
  | .eor => opEor o t s
  | .bit => opBit o t s
  | .inc => opInc o t s
  | .dec => opDec o t s
  | .asl => opAsl o t s
  | .lsr => opLsr o t s
  | .rol => opRol o t s
  | .ror => opRor o t s
  | .jmp => opJmp o t s
  | .jsr => opJsr o t s
  | .bcc => opBcc o t s
  | .bcs => opBcs o t s
  | .beq => opBeq o t s
  | .bne => opBne o t s
  | .bmi => opBmi o t s
  | .bpl => opBpl o t s
  | .bvc => opBvc o t s
  | .bvs => opBvs o t s
  | .undoc => opUndoc o t s
  | .tax => opTax t s
  | .tay => opTay t s
  | .txa => opTxa t s
  | .tya => opTya t s
  | .tsx => opTsx t s
  | .txs => opTxs t s
  | .pha => opPha t s
  | .php => opPhp t s
  | .pla => opPla t s
  | .plp => opPlp t s
  | .inx => opInx t s
  | .iny => opIny t s
  | .dex => opDex t s
  | .dey => opDey t s
  | .rts => opRts t s
  | .brk => opBrk t s
  | .rti => opRti t s
  | .clc => opClc t s
  | .sec => opSec t s
  | .cli => opCli t s
  | .sei => opSei t s
  | .clv => opClv t s
  | .cld => opCld t s
  | .sed => opSed t s
  | .nop => opNop t s

/-- Every instruction completes with its mnemonic's operation on its own operand and timing. -/
theorem exec_eq (i : Instr) (s : State) : exec i s = .next (operationOf i.mnemonic i.operand i.timing s) := by
  cases i <;> rfl

theorem exec_lda (i : Instr) (s : State) (h : i.mnemonic = .lda) :
    exec i s = .next (opLda i.operand i.timing s) := by rw [exec_eq, h]; rfl

theorem exec_ldx (i : Instr) (s : State) (h : i.mnemonic = .ldx) :
    exec i s = .next (opLdx i.operand i.timing s) := by rw [exec_eq, h]; rfl

theorem exec_ldy (i : Instr) (s : State) (h : i.mnemonic = .ldy) :
    exec i s = .next (opLdy i.operand i.timing s) := by rw [exec_eq, h]; rfl

theorem exec_sta (i : Instr) (s : State) (h : i.mnemonic = .sta) :
    exec i s = .next (opSta i.operand i.timing s) := by rw [exec_eq, h]; rfl

theorem exec_stx (i : Instr) (s : State) (h : i.mnemonic = .stx) :
    exec i s = .next (opStx i.operand i.timing s) := by rw [exec_eq, h]; rfl

theorem exec_sty (i : Instr) (s : State) (h : i.mnemonic = .sty) :
    exec i s = .next (opSty i.operand i.timing s) := by rw [exec_eq, h]; rfl

theorem exec_adc (i : Instr) (s : State) (h : i.mnemonic = .adc) :
    exec i s = .next (opAdc i.operand i.timing s) := by rw [exec_eq, h]; rfl

theorem exec_sbc (i : Instr) (s : State) (h : i.mnemonic = .sbc) :
    exec i s = .next (opSbc i.operand i.timing s) := by rw [exec_eq, h]; rfl

theorem exec_cmp (i : Instr) (s : State) (h : i.mnemonic = .cmp) :
    exec i s = .next (opCmp i.operand i.timing s) := by rw [exec_eq, h]; rfl

theorem exec_cpx (i : Instr) (s : State) (h : i.mnemonic = .cpx) :
    exec i s = .next (opCpx i.operand i.timing s) := by rw [exec_eq, h]; rfl

theorem exec_cpy (i : Instr) (s : State) (h : i.mnemonic = .cpy) :
    exec i s = .next (opCpy i.operand i.timing s) := by rw [exec_eq, h]; rfl

theorem exec_and (i : Instr) (s : State) (h : i.mnemonic = .and) :
    exec i s = .next (opAnd i.operand i.timing s) := by rw [exec_eq, h]; rfl

theorem exec_ora (i : Instr) (s : State) (h : i.mnemonic = .ora) :
    exec i s = .next (opOra i.operand i.timing s) := by rw [exec_eq, h]; rfl

theorem exec_eor (i : Instr) (s : State) (h : i.mnemonic = .eor) :
    exec i s = .next (opEor i.operand i.timing s) := by rw [exec_eq, h]; rfl

theorem exec_bit (i : Instr) (s : State) (h : i.mnemonic = .bit) :
    exec i s = .next (opBit i.operand i.timing s) := by rw [exec_eq, h]; rfl

theorem exec_inc (i : Instr) (s : State) (h : i.mnemonic = .inc) :
    exec i s = .next (opInc i.operand i.timing s) := by rw [exec_eq, h]; rfl

theorem exec_dec (i : Instr) (s : State) (h : i.mnemonic = .dec) :
    exec i s = .next (opDec i.operand i.timing s) := by rw [exec_eq, h]; rfl

theorem exec_asl (i : Instr) (s : State) (h : i.mnemonic = .asl) :
    exec i s = .next (opAsl i.operand i.timing s) := by rw [exec_eq, h]; rfl

theorem exec_lsr (i : Instr) (s : State) (h : i.mnemonic = .lsr) :
    exec i s = .next (opLsr i.operand i.timing s) := by rw [exec_eq, h]; rfl

theorem exec_rol (i : Instr) (s : State) (h : i.mnemonic = .rol) :
    exec i s = .next (opRol i.operand i.timing s) := by rw [exec_eq, h]; rfl

theorem exec_ror (i : Instr) (s : State) (h : i.mnemonic = .ror) :
    exec i s = .next (opRor i.operand i.timing s) := by rw [exec_eq, h]; rfl

theorem exec_jmp (i : Instr) (s : State) (h : i.mnemonic = .jmp) :
    exec i s = .next (opJmp i.operand i.timing s) := by rw [exec_eq, h]; rfl

theorem exec_jsr (i : Instr) (s : State) (h : i.mnemonic = .jsr) :
    exec i s = .next (opJsr i.operand i.timing s) := by rw [exec_eq, h]; rfl

theorem exec_bcc (i : Instr) (s : State) (h : i.mnemonic = .bcc) :
    exec i s = .next (opBcc i.operand i.timing s) := by rw [exec_eq, h]; rfl

theorem exec_bcs (i : Instr) (s : State) (h : i.mnemonic = .bcs) :
    exec i s = .next (opBcs i.operand i.timing s) := by rw [exec_eq, h]; rfl

theorem exec_beq (i : Instr) (s : State) (h : i.mnemonic = .beq) :
    exec i s = .next (opBeq i.operand i.timing s) := by rw [exec_eq, h]; rfl

theorem exec_bne (i : Instr) (s : State) (h : i.mnemonic = .bne) :
    exec i s = .next (opBne i.operand i.timing s) := by rw [exec_eq, h]; rfl

theorem exec_bmi (i : Instr) (s : State) (h : i.mnemonic = .bmi) :
    exec i s = .next (opBmi i.operand i.timing s) := by rw [exec_eq, h]; rfl

theorem exec_bpl (i : Instr) (s : State) (h : i.mnemonic = .bpl) :
    exec i s = .next (opBpl i.operand i.timing s) := by rw [exec_eq, h]; rfl

theorem exec_bvc (i : Instr) (s : State) (h : i.mnemonic = .bvc) :
    exec i s = .next (opBvc i.operand i.timing s) := by rw [exec_eq, h]; rfl

theorem exec_bvs (i : Instr) (s : State) (h : i.mnemonic = .bvs) :
    exec i s = .next (opBvs i.operand i.timing s) := by rw [exec_eq, h]; rfl

theorem exec_undoc (i : Instr) (s : State) (h : i.mnemonic = .undoc) :
    exec i s = .next (opUndoc i.operand i.timing s) := by rw [exec_eq, h]; rfl

theorem exec_tax (i : Instr) (s : State) (h : i.mnemonic = .tax) :
    exec i s = .next (opTax i.timing s) := by rw [exec_eq, h]; rfl

theorem exec_tay (i : Instr) (s : State) (h : i.mnemonic = .tay) :
    exec i s = .next (opTay i.timing s) := by rw [exec_eq, h]; rfl

theorem exec_txa (i : Instr) (s : State) (h : i.mnemonic = .txa) :
    exec i s = .next (opTxa i.timing s) := by rw [exec_eq, h]; rfl

theorem exec_tya (i : Instr) (s : State) (h : i.mnemonic = .tya) :
    exec i s = .next (opTya i.timing s) := by rw [exec_eq, h]; rfl

theorem exec_tsx (i : Instr) (s : State) (h : i.mnemonic = .tsx) :
    exec i s = .next (opTsx i.timing s) := by rw [exec_eq, h]; rfl

theorem exec_txs (i : Instr) (s : State) (h : i.mnemonic = .txs) :
    exec i s = .next (opTxs i.timing s) := by rw [exec_eq, h]; rfl

theorem exec_pha (i : Instr) (s : State) (h : i.mnemonic = .pha) :
    exec i s = .next (opPha i.timing s) := by rw [exec_eq, h]; rfl

theorem exec_php (i : Instr) (s : State) (h : i.mnemonic = .php) :
    exec i s = .next (opPhp i.timing s) := by rw [exec_eq, h]; rfl

theorem exec_pla (i : Instr) (s : State) (h : i.mnemonic = .pla) :
    exec i s = .next (opPla i.timing s) := by rw [exec_eq, h]; rfl

theorem exec_plp (i : Instr) (s : State) (h : i.mnemonic = .plp) :
    exec i s = .next (opPlp i.timing s) := by rw [exec_eq, h]; rfl

theorem exec_inx (i : Instr) (s : State) (h : i.mnemonic = .inx) :
    exec i s = .next (opInx i.timing s) := by rw [exec_eq, h]; rfl

theorem exec_iny (i : Instr) (s : State) (h : i.mnemonic = .iny) :
    exec i s = .next (opIny i.timing s) := by rw [exec_eq, h]; rfl

theorem exec_dex (i : Instr) (s : State) (h : i.mnemonic = .dex) :
    exec i s = .next (opDex i.timing s) := by rw [exec_eq, h]; rfl

theorem exec_dey (i : Instr) (s : State) (h : i.mnemonic = .dey) :
    exec i s = .next (opDey i.timing s) := by rw [exec_eq, h]; rfl

theorem exec_rts (i : Instr) (s : State) (h : i.mnemonic = .rts) :
    exec i s = .next (opRts i.timing s) := by rw [exec_eq, h]; rfl

theorem exec_brk (i : Instr) (s : State) (h : i.mnemonic = .brk) :
    exec i s = .next (opBrk i.timing s) := by rw [exec_eq, h]; rfl

theorem exec_rti (i : Instr) (s : State) (h : i.mnemonic = .rti) :
    exec i s = .next (opRti i.timing s) := by rw [exec_eq, h]; rfl

theorem exec_clc (i : Instr) (s : State) (h : i.mnemonic = .clc) :
    exec i s = .next (opClc i.timing s) := by rw [exec_eq, h]; rfl

theorem exec_sec (i : Instr) (s : State) (h : i.mnemonic = .sec) :
    exec i s = .next (opSec i.timing s) := by rw [exec_eq, h]; rfl

theorem exec_cli (i : Instr) (s : State) (h : i.mnemonic = .cli) :
    exec i s = .next (opCli i.timing s) := by rw [exec_eq, h]; rfl

theorem exec_sei (i : Instr) (s : State) (h : i.mnemonic = .sei) :
    exec i s = .next (opSei i.timing s) := by rw [exec_eq, h]; rfl

theorem exec_clv (i : Instr) (s : State) (h : i.mnemonic = .clv) :
    exec i s = .next (opClv i.timing s) := by rw [exec_eq, h]; rfl

theorem exec_cld (i : Instr) (s : State) (h : i.mnemonic = .cld) :
    exec i s = .next (opCld i.timing s) := by rw [exec_eq, h]; rfl

theorem exec_sed (i : Instr) (s : State) (h : i.mnemonic = .sed) :
    exec i s = .next (opSed i.timing s) := by rw [exec_eq, h]; rfl

theorem exec_nop (i : Instr) (s : State) (h : i.mnemonic = .nop) :
    exec i s = .next (opNop i.timing s) := by rw [exec_eq, h]; rfl

/-- The registers after a read-modify-write instruction on the accumulator. -/
theorem modifyOp_accumulator_cpu (f : Byte → Flags → Byte × Flags) (t : Timing) (s : State) :
    (modifyOp f .accumulator t s).cpu =
      { accountFor t false s.cpu with a := (f s.cpu.a s.cpu.p).1, p := (f s.cpu.a s.cpu.p).2 } := rfl

/-- The registers after a read-modify-write instruction on memory. -/
theorem modifyOp_memory_cpu (f : Byte → Flags → Byte × Flags) (o : Operand) (t : Timing) (s : State)
    (h : o ≠ .accumulator) :
    (modifyOp f o t s).cpu = { accountFor t (resolve o s).1.crossed s.cpu with
      p := (f (readOperand o (resolve o s).1.ea (prepare o t s).2).1 s.cpu.p).2 } := by
  cases o <;> first | exact absurd rfl h | simp [modifyOp, readOperand, accountFor]

/-- The accumulator forms store nothing. -/
theorem modifyOp_accumulator_backing (f : Byte → Flags → Byte × Flags) (t : Timing) (s : State) :
    (modifyOp f .accumulator t s).bus.backing = s.bus.backing := rfl

/-- A branch changes no register but `PC` and `cycles`. -/
theorem branchIf_cpu (c : Flags → Bool) (o : Operand) (t : Timing) (s : State) :
    (branchIf c o t s).cpu =
      { s.cpu with pc := (branchIf c o t s).cpu.pc, cycles := (branchIf c o t s).cpu.cycles } := by
  unfold branchIf
  dsimp only
  split <;> simp [accountFor]

/-- A branch stores nothing. -/
theorem branchIf_backing (c : Flags → Bool) (o : Operand) (t : Timing) (s : State) :
    (branchIf c o t s).bus.backing = s.bus.backing := by
  unfold branchIf
  dsimp only
  split <;> simp

end Sys2Proof.Machine
end

