-- ==== Sys2Proof/Laws/Invariant.lean ====
section
/-! SUPPORT. Every operation of the machine keeps the invariant `State.Inv`: bus accesses, the picture processor's tick,
the collaborators' actions, and the shapes instructions are written in; which bus accesses add stall units (R316);
and that reads install no handlers (R70). -/

namespace Sys2Proof.Machine

/-- A slot's handler is the default one or that of a span that holds the address. -/
theorem slotHandler_mem : ∀ (slots : List Span) (a : Nat),
    slotHandler slots a = .ram ∨ ∃ sp ∈ slots, sp.first ≤ a ∧ sp.handler = slotHandler slots a
  | [], _ => .inl rfl
  | sp :: rest, a => by
    unfold slotHandler
    split
    · next h => exact .inr ⟨sp, by simp, h.1, rfl⟩
    · rcases slotHandler_mem rest a with h | ⟨q, hq, h1, h2⟩
      · exact .inl h
      · exact .inr ⟨q, by simp [hq], h1, h2⟩

/-- R65: a redirect of a sound wiring goes to a lower address. -/
theorem canonicalAddress_lt {slots : List Span} (hw : wiringSound slots) {a base len : Nat}
    (h : slotHandler slots a = .redirect base len) : canonicalAddress base len a < a := by
  rcases slotHandler_mem slots a with h1 | ⟨sp, hsp, hf, hh⟩
  · rw [h] at h1; cases h1
  · have hs := hw sp hsp
    rw [h] at hh
    simp only [Span.sound, hh] at hs
    have := Nat.mod_lt (a - base) hs.1
    unfold canonicalAddress
    omega

/-- Following the redirects of a sound wiring ends at a slot not above the start, whose own handler answers. -/
theorem followRedirects_spec {slots : List Span} (hw : wiringSound slots) :
    ∀ (fuel a : Nat), a < fuel →
      (followRedirects slots fuel a).1 ≤ a ∧
      slotHandler slots (followRedirects slots fuel a).1 = (followRedirects slots fuel a).2 ∧
      ∀ b l, (followRedirects slots fuel a).2 ≠ .redirect b l
  | 0, a, h => absurd h (Nat.not_lt_zero a)
  | fuel + 1, a, h => by
    unfold followRedirects
    split
    · next base len hr =>
      have hlt := canonicalAddress_lt hw hr
      obtain ⟨h1, h2, h3⟩ := followRedirects_spec hw fuel (canonicalAddress base len a) (by omega)
      exact ⟨by omega, h2, h3⟩
    · next hh => exact ⟨Nat.le_refl a, rfl, hh⟩

/-- In a sound wiring every access ends inside the address space. -/
theorem targetOf_lt {slots : List Span} (hw : wiringSound slots) (a : Word) : (targetOf slots a).1 < 65536 :=
  Nat.lt_of_le_of_lt (followRedirects_spec hw _ _ (Nat.lt_succ_self a.toNat)).1 a.isLt

/-- In a sound wiring no access ends at a redirect. -/
theorem targetOf_not_redirect {slots : List Span} (hw : wiringSound slots) (a : Word) (b l : Nat) :
    (targetOf slots a).2 ≠ .redirect b l :=
  (followRedirects_spec hw _ _ (Nat.lt_succ_self a.toNat)).2.2 b l

/-- An address whose own slot does not redirect answers itself. -/
theorem targetOf_self {slots : List Span} {a : Word} {h : Handler} (hs : slotHandler slots a.toNat = h)
    (hr : ∀ b l, h ≠ .redirect b l) : targetOf slots a = (a.toNat, h) := by
  unfold targetOf followRedirects
  split
  · next base len hh => exact absurd (hs.symm.trans hh) (hr base len)
  · rw [hs]

theorem foldl_keeps {α : Type} (P : State → Prop) (f : State → α → State) (hf : ∀ s x, P s → P (f s x)) :
    ∀ (l : List α) (s : State), P s → P (l.foldl f s)
  | [], _, h => h
  | x :: rest, s, h => foldl_keeps P f hf rest (f s x) (hf s x h)

theorem Span.sound_handlerOfSlot (a b : Nat) (m : MapperSlot) : (Span.mk a b (handlerOfSlot m)).sound := by
  cases m <;> trivial

theorem wiringSound_cons {sp : Span} {slots : List Span} (h : sp.sound) (hs : wiringSound slots) :
    wiringSound (sp :: slots) := fun q hq => by
  rcases List.mem_cons.mp hq with rfl | hq
  · exact h
  · exact hs q hq

/-- Only the bus and the picture processor matter to the invariant. -/
theorem State.Inv.of_eq {s t : State} (h : s.Inv) (hb : t.bus = s.bus) (hp : t.ppu = s.ppu) : t.Inv := by
  unfold State.Inv
  rw [hb, hp]
  exact h

theorem applyMapperAction_inv (s : State) (x : MapperAction) (h : s.Inv) : (applyMapperAction s x).Inv := by
  cases x <;> exact h

theorem applyMapperWriteAction_inv (s : State) (x : MapperWriteAction) (h : s.Inv) :
    (applyMapperWriteAction s x).Inv := by
  obtain ⟨⟨h1, h2, h3, h4⟩, hp⟩ := h
  cases x with
  | configureRead a m => exact ⟨⟨h1, h2, wiringSound_cons (Span.sound_handlerOfSlot _ _ m) h3, h4⟩, hp⟩
  | configureWrite a m => exact ⟨⟨h1, h2, h3, wiringSound_cons (Span.sound_handlerOfSlot _ _ m) h4⟩, hp⟩
  | configureRange a b m n =>
    exact ⟨⟨h1, h2, wiringSound_cons (Span.sound_handlerOfSlot _ _ m) h3,
      wiringSound_cons (Span.sound_handlerOfSlot _ _ n) h4⟩, hp⟩
  | configurePpuRange a b r w => exact ⟨⟨h1, h2, h3, h4⟩, hp⟩
  | signal x => exact applyMapperAction_inv s x ⟨⟨h1, h2, h3, h4⟩, hp⟩

theorem applyMapperActions_inv (l : List MapperAction) (s : State) (h : s.Inv) : (applyMapperActions l s).Inv :=
  foldl_keeps State.Inv _ applyMapperAction_inv l s h

theorem applyMapperWriteActions_inv (l : List MapperWriteAction) (s : State) (h : s.Inv) :
    (applyMapperWriteActions l s).Inv :=
  foldl_keeps State.Inv _ applyMapperWriteAction_inv l s h

theorem applyApuLine_inv (s : State) (x : ApuLine) (h : s.Inv) : (applyApuLine s x).Inv := by
  cases x <;> exact h

theorem mapperRead_inv (s : State) (h : s.Inv) : (mapperRead s).2.Inv := by
  unfold mapperRead
  split
  · exact h
  · exact applyMapperActions_inv _ _ h

theorem mapperWrite_inv (s : State) (h : s.Inv) : (mapperWrite s).Inv := by
  unfold mapperWrite
  split
  · exact h
  · exact applyMapperWriteActions_inv _ _ h

theorem mapperChrRead_inv (s : State) (h : s.Inv) : (mapperChrRead s).2.Inv := by
  unfold mapperChrRead
  split
  · exact h
  · exact applyMapperActions_inv _ _ h

theorem mapperChrWrite_inv (s : State) (h : s.Inv) : (mapperChrWrite s).Inv := by
  unfold mapperChrWrite
  split
  · exact h
  · exact applyMapperWriteActions_inv _ _ h

theorem mapperVideo_inv (s : State) (h : s.Inv) : (mapperVideo s).Inv := by
  unfold mapperVideo
  split
  · exact applyMapperActions_inv _ _ h
  · exact h

theorem audioRead_inv (s : State) (h : s.Inv) : (audioRead s).2.Inv := by
  unfold audioRead
  split
  · exact h
  · exact foldl_keeps State.Inv _ applyApuLine_inv _ _ h

theorem audioWrite_inv (s : State) (h : s.Inv) : (audioWrite s).Inv := by
  unfold audioWrite
  split
  · exact h
  · exact foldl_keeps State.Inv _ applyApuLine_inv _ _ h

theorem controllerRead_inv (k : Bool) (s : State) (h : s.Inv) : (controllerRead k s).2.Inv := by
  unfold controllerRead
  split
  · exact h
  · cases k <;> exact h

/-- The cell behind an address of the picture processor's space is inside its memory. -/
theorem vramCell_lt (s : State) {a : Nat} (h : a < 0x4000) : vramCell s a < 0x4000 := by
  have := (Config.nametableCell s.mapper.mirrorMode (BitVec.ofNat 13 (a - 0x2000))).isLt
  unfold vramCell
  split <;> omega

theorem ppuRead_inv (a : Nat) (s : State) (h : s.Inv) : (ppuRead a s).2.Inv := by
  unfold ppuRead
  split
  · exact mapperChrRead_inv s h
  · exact h

theorem ppuWrite_inv (a : Nat) (b : Byte) (s : State) (h : s.Inv) : (ppuWrite a b s).Inv := by
  unfold ppuWrite
  split
  · exact mapperChrWrite_inv s h
  · obtain ⟨hb, c1, c2, c3, c4, c5, c6, c7, c8, c9⟩ := h
    exact ⟨hb, c1, c2, c3, c4, c5, c6, c7, Memory.write_wf _ _ _ c8,
      Memory.write_within _ _ _ _ c9 (vramCell_lt s (Nat.mod_lt _ (by decide)))⟩

theorem readData_inv (s : State) (h : s.Inv) : (readData s).2.Inv := by
  unfold readData
  dsimp only
  split
  · exact ppuRead_inv _ s h
  · exact ppuRead_inv _ _ (ppuRead_inv _ s h)

theorem readPort_inv (n : Nat) (s : State) (h : s.Inv) : (readPort n s).2.Inv := by
  unfold readPort
  split
  · exact h
  · exact h
  · exact readData_inv s h
  · exact h

theorem armNmi_sound (p q : Ppu) (h : q.sound) : (armNmi p q).sound := by
  unfold armNmi
  split
  · obtain ⟨c1, c2, _, c4⟩ := h
    exact ⟨c1, c2, Nat.le_refl _, c4⟩
  · exact h

theorem writeScroll_sound (d : Byte) (p : Ppu) (h : p.sound) : (writeScroll d p).sound := by
  unfold writeScroll
  split <;> exact h

theorem writeAddress_sound (d : Byte) (p : Ppu) (h : p.sound) : (writeAddress d p).sound := by
  unfold writeAddress
  split <;> exact h

theorem writePort_inv (n : Nat) (d : Byte) (s : State) (h : s.Inv) : (writePort n d s).Inv := by
  unfold writePort
  split
  · exact ⟨h.1, armNmi_sound _ _ h.2⟩
  · exact h
  · exact h
  · obtain ⟨hb, c1, c2, c3, c4, c5, c6, c7, c8⟩ := h
    exact ⟨hb, c1, c2, c3, c4, c5, Memory.write_wf _ _ _ c6,
      Memory.write_within _ _ _ _ c7 s.ppu.oamAddr.isLt, c8⟩
  · exact ⟨h.1, writeScroll_sound _ _ h.2⟩
  · exact ⟨h.1, writeAddress_sound _ _ h.2⟩
  · exact ppuWrite_inv _ _ s h
  · exact h

/-- A bus read keeps the invariant. -/
theorem memRead_inv (a : Word) (s : State) (h : s.Inv) : (memRead a s).2.Inv := by
  unfold memRead readThrough
  split
  · exact h
  · exact h
  · exact readPort_inv _ s h
  · exact h
  · exact audioRead_inv s h
  · exact controllerRead_inv _ s h
  · exact mapperRead_inv s h
  · exact h

theorem oamDmaByte_inv (v : Byte) (start : Nat) (s : State) (i : Nat) (h : s.Inv) : (oamDmaByte v start s i).Inv := by
  obtain ⟨hb, c1, c2, c3, c4, c5, c6, c7, c8⟩ := memRead_inv (wordOfBytes (BitVec.ofNat 8 i) v) s h
  exact ⟨hb, c1, c2, c3, c4, c5, Memory.write_wf _ _ _ c6,
    Memory.write_within _ _ _ _ c7 (Nat.mod_lt _ (by decide)), c8⟩

theorem oamDma_inv (v : Byte) (s : State) (h : s.Inv) : (oamDma v s).Inv := by
  unfold oamDma
  generalize List.range 256 = l
  exact foldl_keeps State.Inv _ (oamDmaByte_inv v _) l s h

/-- A bus write keeps the invariant. -/
theorem memWrite_inv (a : Word) (v : Byte) (s : State) (h : s.Inv) : (memWrite a v s).Inv := by
  have hstore : (State.Inv { s with bus := { s.bus with
      backing := s.bus.backing.write (targetOf s.bus.writeSlots a).1 v } }) :=
    ⟨⟨Memory.write_wf _ _ _ h.1.1, Memory.write_within _ _ _ _ h.1.2.1 (targetOf_lt h.1.2.2.2 a), h.1.2.2⟩, h.2⟩
  unfold memWrite writeThrough
  split
  · exact hstore
  · exact hstore
  · exact writePort_inv _ v s h
  · exact oamDma_inv v s h
  · exact audioWrite_inv s h
  · exact h
  · exact mapperWrite_inv s h
  · exact h

/-- R316: a mapper's callback adds no stall units. -/
theorem applyMapperActions_stall (l : List MapperAction) (s : State) :
    (applyMapperActions l s).lines.stall = s.lines.stall :=
  foldl_keeps (fun t => t.lines.stall = s.lines.stall) _ (fun t x h => by cases x <;> exact h) l s rfl

theorem applyMapperWriteActions_stall (l : List MapperWriteAction) (s : State) :
    (applyMapperWriteActions l s).lines.stall = s.lines.stall := by
  refine foldl_keeps (fun t => t.lines.stall = s.lines.stall) _ (fun t x h => ?_) l s rfl
  cases x with
  | signal x => exact (applyMapperActions_stall [x] t).trans h
  | _ => exact h

/-- R316: neither does what the audio unit does at an access to its registers. -/
theorem foldl_applyApuLine_stall (l : List ApuLine) (s : State) :
    (l.foldl applyApuLine s).lines.stall = s.lines.stall :=
  foldl_keeps (fun t => t.lines.stall = s.lines.stall) _ (fun t x h => by cases x <;> exact h) l s rfl

theorem ppuRead_stall (a : Nat) (s : State) : (ppuRead a s).2.lines.stall = s.lines.stall := by
  unfold ppuRead mapperChrRead
  repeat' split
  · rfl
  · exact applyMapperActions_stall _ _
  · rfl

theorem ppuWrite_stall (a : Nat) (b : Byte) (s : State) : (ppuWrite a b s).lines.stall = s.lines.stall := by
  unfold ppuWrite mapperChrWrite
  repeat' split
  · rfl
  · exact applyMapperWriteActions_stall _ _
  · rfl

theorem readData_stall (s : State) : (readData s).2.lines.stall = s.lines.stall := by
  unfold readData
  dsimp only
  split
  · exact ppuRead_stall _ s
  · exact (ppuRead_stall _ _).trans (ppuRead_stall _ s)

theorem readPort_stall (n : Nat) (s : State) : (readPort n s).2.lines.stall = s.lines.stall := by
  unfold readPort
  split
  case h_3 => exact readData_stall s
  all_goals rfl

theorem writePort_stall (n : Nat) (d : Byte) (s : State) : (writePort n d s).lines.stall = s.lines.stall := by
  unfold writePort
  split
  case h_7 => exact ppuWrite_stall _ d s
  all_goals rfl

/-- R316: no bus read adds stall units. -/
theorem memRead_stall (a : Word) (s : State) : (memRead a s).2.lines.stall = s.lines.stall := by
  unfold memRead readThrough
  split
  case h_3 => exact readPort_stall _ s
  case h_5 =>
    unfold audioRead
    split
    · rfl
    · exact foldl_applyApuLine_stall _ _
  case h_6 =>
    unfold controllerRead
    split
    · rfl
    · split <;> rfl
  case h_7 =>
    unfold mapperRead
    split
    · rfl
    · exact applyMapperActions_stall _ _
  all_goals rfl

/-- R316: a bus write adds stall units only where it reaches the OAM DMA port. -/
theorem memWrite_stall (a : Word) (v : Byte) (s : State) (h : (targetOf s.bus.writeSlots a).2 ≠ .oamDma) :
    (memWrite a v s).lines.stall = s.lines.stall := by
  unfold memWrite writeThrough
  split
  case h_3 => exact writePort_stall _ v s
  case h_4 => exact absurd ‹_› h
  case h_5 =>
    unfold audioWrite
    split
    · rfl
    · exact foldl_applyApuLine_stall _ _
  case h_7 =>
    unfold mapperWrite
    split
    · rfl
    · exact applyMapperWriteActions_stall _ _
  all_goals rfl

/-- R70: what any callback of a mapper may do changes neither the bus nor the picture processor. -/
theorem applyMapperActions_wiring (l : List MapperAction) (s : State) :
    (applyMapperActions l s).bus = s.bus ∧ (applyMapperActions l s).ppu = s.ppu :=
  foldl_keeps (fun t => t.bus = s.bus ∧ t.ppu = s.ppu) _ (fun t x h => by cases x <;> exact h) l s ⟨rfl, rfl⟩

theorem mapperChrRead_wiring (s : State) :
    (mapperChrRead s).2.bus = s.bus ∧ (mapperChrRead s).2.ppu = s.ppu := by
  unfold mapperChrRead
  split
  · exact ⟨rfl, rfl⟩
  · exact applyMapperActions_wiring _ _

/-- R70: a read of the picture processor's space installs nothing. -/
theorem ppuRead_wiring (a : Nat) (s : State) : (ppuRead a s).2.bus = s.bus ∧ (ppuRead a s).2.ppu = s.ppu := by
  unfold ppuRead
  split
  · exact mapperChrRead_wiring s
  · exact ⟨rfl, rfl⟩

/-- R70: neither does the mapper's notification at a tick. -/
theorem mapperVideo_wiring (s : State) : (mapperVideo s).bus = s.bus ∧ (mapperVideo s).ppu = s.ppu := by
  unfold mapperVideo
  split
  · exact applyMapperActions_wiring _ _
  · exact ⟨rfl, rfl⟩

/-- R70: a read of a port changes the bus in nothing, and the picture processor's interceptions neither. -/
theorem readPort_wiring (n : Nat) (s : State) :
    (readPort n s).2.bus = s.bus ∧ (readPort n s).2.ppu.slots = s.ppu.slots := by
  unfold readPort
  split
  case h_3 =>
    have key (a : Nat) (t : State) : (ppuRead a t).2.bus = t.bus ∧ (ppuRead a t).2.ppu.slots = t.ppu.slots :=
      ⟨(ppuRead_wiring a t).1, congrArg Ppu.slots (ppuRead_wiring a t).2⟩
    unfold readData
    dsimp only
    split
    · exact key _ s
    · exact ⟨(key _ _).1.trans (key _ s).1, (key _ _).2.trans (key _ s).2⟩
  all_goals exact ⟨rfl, rfl⟩

/-- R70: no bus read installs a handler or an interception; the whole bus is as before. -/
theorem memRead_wiring (a : Word) (s : State) :
    (memRead a s).2.bus = s.bus ∧ (memRead a s).2.ppu.slots = s.ppu.slots := by
  unfold memRead readThrough
  split
  case h_3 => exact readPort_wiring _ s
  case h_5 =>
    unfold audioRead
    split
    · exact ⟨rfl, rfl⟩
    · exact foldl_keeps (fun t => t.bus = s.bus ∧ t.ppu.slots = s.ppu.slots) _
        (fun t x h => by cases x <;> exact h) _ _ ⟨rfl, rfl⟩
  case h_6 =>
    unfold controllerRead
    split
    · exact ⟨rfl, rfl⟩
    · split <;> exact ⟨rfl, rfl⟩
  case h_7 =>
    unfold mapperRead
    split
    · exact ⟨rfl, rfl⟩
    · exact ⟨(applyMapperActions_wiring _ _).1, congrArg Ppu.slots (applyMapperActions_wiring _ _).2⟩
  all_goals exact ⟨rfl, rfl⟩

theorem push_inv (v : Byte) (s : State) (h : s.Inv) : (push v s).Inv :=
  memWrite_inv (stackAddress s.cpu.sp) v s h

theorem push16_inv (w : Word) (s : State) (h : s.Inv) : (push16 w s).Inv := push_inv _ _ (push_inv _ s h)

theorem pull_inv (s : State) (h : s.Inv) : (pull s).2.Inv := memRead_inv _ _ h

theorem pull16_inv (s : State) (h : s.Inv) : (pull16 s).2.Inv := pull_inv _ (pull_inv s h)

theorem read16_inv (a : Word) (s : State) (h : s.Inv) : (read16 a s).2.Inv := memRead_inv _ _ (memRead_inv a s h)

theorem read16Page_inv (a : Word) (s : State) (h : s.Inv) : (read16Page a s).2.Inv :=
  memRead_inv _ _ (memRead_inv a s h)

theorem State.Inv.setCpu {s : State} (h : s.Inv) (c : Cpu) : State.Inv { s with cpu := c } := h

theorem enterVector_inv (vector : Word) (b4 : Bool) (s : State) (h : s.Inv) : (enterVector vector b4 s).Inv := by
  have h1 := push_inv (packP b4 s.cpu.p) _ (push16_inv s.cpu.pc s h)
  unfold enterVector
  generalize push (packP b4 s.cpu.p) (push16 s.cpu.pc s) = u at h1 ⊢
  exact (read16_inv vector _ (h1.setCpu _)).setCpu _

theorem interruptEntry_inv (vector : Word) (s : State) (h : s.Inv) : (interruptEntry vector s).Inv := by
  unfold interruptEntry
  exact (enterVector_inv vector false s h).setCpu _

theorem returnFromInterrupt_inv (s : State) (h : s.Inv) : (returnFromInterrupt s).Inv := by
  have h1 := pull_inv s h
  unfold returnFromInterrupt
  generalize pull s = u at h1 ⊢
  exact (pull16_inv _ (h1.setCpu _)).setCpu _

theorem resolve_inv (o : Operand) (s : State) (h : s.Inv) : (resolve o s).2.Inv := by
  cases o with
  | indirect p => exact read16Page_inv _ s h
  | indexedIndirect z => exact read16Page_inv _ s h
  | indirectIndexed z => exact read16Page_inv _ s h
  | _ => exact h

theorem prepare_inv (o : Operand) (t : Timing) (s : State) (h : s.Inv) : (prepare o t s).2.Inv := resolve_inv o s h

theorem readOperand_inv (o : Operand) (ea : Word) (s : State) (h : s.Inv) : (readOperand o ea s).2.Inv := by
  cases o with
  | immediate v => exact h
  | accumulator => exact h
  | _ => exact memRead_inv ea s h

theorem readOp_inv (f : Byte → Cpu → Cpu) (o : Operand) (t : Timing) (s : State) (h : s.Inv) : (readOp f o t s).Inv :=
  readOperand_inv o _ _ (prepare_inv o t s h)

theorem storeOp_inv (reg : Cpu → Byte) (o : Operand) (t : Timing) (s : State) (h : s.Inv) : (storeOp reg o t s).Inv :=
  memWrite_inv _ _ _ (prepare_inv o t s h)

theorem modifyOp_inv (f : Byte → Flags → Byte × Flags) (o : Operand) (t : Timing) (s : State) (h : s.Inv) :
    (modifyOp f o t s).Inv := by
  have hm := readOperand_inv o (prepare o t s).1 _ (prepare_inv o t s h)
  unfold modifyOp
  dsimp only
  split
  · exact hm
  · exact memWrite_inv _ _ _ hm

theorem registerOp_inv (f : Cpu → Cpu) (t : Timing) (s : State) (h : s.Inv) : (registerOp f t s).Inv := h

theorem branchIf_inv (c : Flags → Bool) (o : Operand) (t : Timing) (s : State) (h : s.Inv) : (branchIf c o t s).Inv := by
  have hp := prepare_inv o t s h
  unfold branchIf
  dsimp only
  split
  · exact hp
  · exact hp

end Sys2Proof.Machine
end

