-- ==== Sys2Proof/Laws/PerInstr.lean ====
section
/-! SUPPORT. The per-instruction family `TableRow`: every instruction agrees with the row of the opcode table its opcode
selects. -/

namespace Sys2Proof.Laws.TableRow

/-- The instruction the decoder gives for an opcode and the operand bytes of `o`. -/
def reassemble (op : Byte) (o : Operand) : Instr :=
  match o with
  | .implied | .accumulator => instrAt op 0 0
  | .immediate b | .zeroPage b | .zeroPageX b | .zeroPageY b | .indexedIndirect b | .indirectIndexed b
  | .relative b => instrAt op b 0
  | .absolute w | .absoluteX w | .absoluteY w | .indirect w => instrAt op 0 w

/-- The table's row at the instruction's opcode is the instruction's own (R91): its opcode, mnemonic, addressing mode
and timing; the encoding is as long as the row says; the mnemonic allows the mode; and the decoder's matrix gives the
instruction back from its opcode and operand (R105). -/
def Statement (i : Instr) : Prop :=
  opcodeRow i.opcode = ⟨i.opcode.toNat, i.mnemonic, i.operand.mode, i.timing⟩ ∧
    (encode i).length = i.timing.size ∧ i.wellFormed = true ∧ reassemble i.opcode i.operand = i

theorem adcIndX (z : Byte) : Statement (.adcIndX z) := ⟨(rfl : opcodeRow 0x61 = _), rfl, rfl,
  (rfl : reassemble 0x61 (.indexedIndirect z) = _)⟩
theorem adcZp (z : Byte) : Statement (.adcZp z) := ⟨(rfl : opcodeRow 0x65 = _), rfl, rfl,
  (rfl : reassemble 0x65 (.zeroPage z) = _)⟩
theorem adcImm (v : Byte) : Statement (.adcImm v) := ⟨(rfl : opcodeRow 0x69 = _), rfl, rfl,
  (rfl : reassemble 0x69 (.immediate v) = _)⟩
theorem adcAbs (a : Word) : Statement (.adcAbs a) := ⟨(rfl : opcodeRow 0x6D = _), rfl, rfl,
  (rfl : reassemble 0x6D (.absolute a) = _)⟩
theorem adcIndY (z : Byte) : Statement (.adcIndY z) := ⟨(rfl : opcodeRow 0x71 = _), rfl, rfl,
  (rfl : reassemble 0x71 (.indirectIndexed z) = _)⟩
theorem adcZpX (z : Byte) : Statement (.adcZpX z) := ⟨(rfl : opcodeRow 0x75 = _), rfl, rfl,
  (rfl : reassemble 0x75 (.zeroPageX z) = _)⟩
theorem adcAbsY (a : Word) : Statement (.adcAbsY a) := ⟨(rfl : opcodeRow 0x79 = _), rfl, rfl,
  (rfl : reassemble 0x79 (.absoluteY a) = _)⟩
theorem adcAbsX (a : Word) : Statement (.adcAbsX a) := ⟨(rfl : opcodeRow 0x7D = _), rfl, rfl,
  (rfl : reassemble 0x7D (.absoluteX a) = _)⟩
theorem andIndX (z : Byte) : Statement (.andIndX z) := ⟨(rfl : opcodeRow 0x21 = _), rfl, rfl,
  (rfl : reassemble 0x21 (.indexedIndirect z) = _)⟩
theorem andZp (z : Byte) : Statement (.andZp z) := ⟨(rfl : opcodeRow 0x25 = _), rfl, rfl,
  (rfl : reassemble 0x25 (.zeroPage z) = _)⟩
theorem andImm (v : Byte) : Statement (.andImm v) := ⟨(rfl : opcodeRow 0x29 = _), rfl, rfl,
  (rfl : reassemble 0x29 (.immediate v) = _)⟩
theorem andAbs (a : Word) : Statement (.andAbs a) := ⟨(rfl : opcodeRow 0x2D = _), rfl, rfl,
  (rfl : reassemble 0x2D (.absolute a) = _)⟩
theorem andIndY (z : Byte) : Statement (.andIndY z) := ⟨(rfl : opcodeRow 0x31 = _), rfl, rfl,
  (rfl : reassemble 0x31 (.indirectIndexed z) = _)⟩
theorem andZpX (z : Byte) : Statement (.andZpX z) := ⟨(rfl : opcodeRow 0x35 = _), rfl, rfl,
  (rfl : reassemble 0x35 (.zeroPageX z) = _)⟩
theorem andAbsY (a : Word) : Statement (.andAbsY a) := ⟨(rfl : opcodeRow 0x39 = _), rfl, rfl,
  (rfl : reassemble 0x39 (.absoluteY a) = _)⟩
theorem andAbsX (a : Word) : Statement (.andAbsX a) := ⟨(rfl : opcodeRow 0x3D = _), rfl, rfl,
  (rfl : reassemble 0x3D (.absoluteX a) = _)⟩
theorem aslZp (z : Byte) : Statement (.aslZp z) := ⟨(rfl : opcodeRow 0x06 = _), rfl, rfl,
  (rfl : reassemble 0x06 (.zeroPage z) = _)⟩
theorem aslAcc : Statement .aslAcc := ⟨(rfl : opcodeRow 0x0A = _), rfl, rfl,
  (rfl : reassemble 0x0A .accumulator = _)⟩
theorem aslAbs (a : Word) : Statement (.aslAbs a) := ⟨(rfl : opcodeRow 0x0E = _), rfl, rfl,
  (rfl : reassemble 0x0E (.absolute a) = _)⟩
theorem aslZpX (z : Byte) : Statement (.aslZpX z) := ⟨(rfl : opcodeRow 0x16 = _), rfl, rfl,
  (rfl : reassemble 0x16 (.zeroPageX z) = _)⟩
theorem aslAbsX (a : Word) : Statement (.aslAbsX a) := ⟨(rfl : opcodeRow 0x1E = _), rfl, rfl,
  (rfl : reassemble 0x1E (.absoluteX a) = _)⟩
theorem bcc (off : Byte) : Statement (.bcc off) := ⟨(rfl : opcodeRow 0x90 = _), rfl, rfl,
  (rfl : reassemble 0x90 (.relative off) = _)⟩
theorem bcs (off : Byte) : Statement (.bcs off) := ⟨(rfl : opcodeRow 0xB0 = _), rfl, rfl,
  (rfl : reassemble 0xB0 (.relative off) = _)⟩
theorem beq (off : Byte) : Statement (.beq off) := ⟨(rfl : opcodeRow 0xF0 = _), rfl, rfl,
  (rfl : reassemble 0xF0 (.relative off) = _)⟩
theorem bitZp (z : Byte) : Statement (.bitZp z) := ⟨(rfl : opcodeRow 0x24 = _), rfl, rfl,
  (rfl : reassemble 0x24 (.zeroPage z) = _)⟩
theorem bitAbs (a : Word) : Statement (.bitAbs a) := ⟨(rfl : opcodeRow 0x2C = _), rfl, rfl,
  (rfl : reassemble 0x2C (.absolute a) = _)⟩
theorem bmi (off : Byte) : Statement (.bmi off) := ⟨(rfl : opcodeRow 0x30 = _), rfl, rfl,
  (rfl : reassemble 0x30 (.relative off) = _)⟩
theorem bne (off : Byte) : Statement (.bne off) := ⟨(rfl : opcodeRow 0xD0 = _), rfl, rfl,
  (rfl : reassemble 0xD0 (.relative off) = _)⟩
theorem bpl (off : Byte) : Statement (.bpl off) := ⟨(rfl : opcodeRow 0x10 = _), rfl, rfl,
  (rfl : reassemble 0x10 (.relative off) = _)⟩
theorem brk : Statement .brk := ⟨(rfl : opcodeRow 0x00 = _), rfl, rfl,
  (rfl : reassemble 0x00 .implied = _)⟩
theorem bvc (off : Byte) : Statement (.bvc off) := ⟨(rfl : opcodeRow 0x50 = _), rfl, rfl,
  (rfl : reassemble 0x50 (.relative off) = _)⟩
theorem bvs (off : Byte) : Statement (.bvs off) := ⟨(rfl : opcodeRow 0x70 = _), rfl, rfl,
  (rfl : reassemble 0x70 (.relative off) = _)⟩
theorem clc : Statement .clc := ⟨(rfl : opcodeRow 0x18 = _), rfl, rfl,
  (rfl : reassemble 0x18 .implied = _)⟩
theorem cld : Statement .cld := ⟨(rfl : opcodeRow 0xD8 = _), rfl, rfl,
  (rfl : reassemble 0xD8 .implied = _)⟩
theorem cli : Statement .cli := ⟨(rfl : opcodeRow 0x58 = _), rfl, rfl,
  (rfl : reassemble 0x58 .implied = _)⟩
theorem clv : Statement .clv := ⟨(rfl : opcodeRow 0xB8 = _), rfl, rfl,
  (rfl : reassemble 0xB8 .implied = _)⟩
theorem cmpIndX (z : Byte) : Statement (.cmpIndX z) := ⟨(rfl : opcodeRow 0xC1 = _), rfl, rfl,
  (rfl : reassemble 0xC1 (.indexedIndirect z) = _)⟩
theorem cmpZp (z : Byte) : Statement (.cmpZp z) := ⟨(rfl : opcodeRow 0xC5 = _), rfl, rfl,
  (rfl : reassemble 0xC5 (.zeroPage z) = _)⟩
theorem cmpImm (v : Byte) : Statement (.cmpImm v) := ⟨(rfl : opcodeRow 0xC9 = _), rfl, rfl,
  (rfl : reassemble 0xC9 (.immediate v) = _)⟩
theorem cmpAbs (a : Word) : Statement (.cmpAbs a) := ⟨(rfl : opcodeRow 0xCD = _), rfl, rfl,
  (rfl : reassemble 0xCD (.absolute a) = _)⟩
theorem cmpIndY (z : Byte) : Statement (.cmpIndY z) := ⟨(rfl : opcodeRow 0xD1 = _), rfl, rfl,
  (rfl : reassemble 0xD1 (.indirectIndexed z) = _)⟩
theorem cmpZpX (z : Byte) : Statement (.cmpZpX z) := ⟨(rfl : opcodeRow 0xD5 = _), rfl, rfl,
  (rfl : reassemble 0xD5 (.zeroPageX z) = _)⟩
theorem cmpAbsY (a : Word) : Statement (.cmpAbsY a) := ⟨(rfl : opcodeRow 0xD9 = _), rfl, rfl,
  (rfl : reassemble 0xD9 (.absoluteY a) = _)⟩
theorem cmpAbsX (a : Word) : Statement (.cmpAbsX a) := ⟨(rfl : opcodeRow 0xDD = _), rfl, rfl,
  (rfl : reassemble 0xDD (.absoluteX a) = _)⟩
theorem cpxImm (v : Byte) : Statement (.cpxImm v) := ⟨(rfl : opcodeRow 0xE0 = _), rfl, rfl,
  (rfl : reassemble 0xE0 (.immediate v) = _)⟩
theorem cpxZp (z : Byte) : Statement (.cpxZp z) := ⟨(rfl : opcodeRow 0xE4 = _), rfl, rfl,
  (rfl : reassemble 0xE4 (.zeroPage z) = _)⟩
theorem cpxAbs (a : Word) : Statement (.cpxAbs a) := ⟨(rfl : opcodeRow 0xEC = _), rfl, rfl,
  (rfl : reassemble 0xEC (.absolute a) = _)⟩
theorem cpyImm (v : Byte) : Statement (.cpyImm v) := ⟨(rfl : opcodeRow 0xC0 = _), rfl, rfl,
  (rfl : reassemble 0xC0 (.immediate v) = _)⟩
theorem cpyZp (z : Byte) : Statement (.cpyZp z) := ⟨(rfl : opcodeRow 0xC4 = _), rfl, rfl,
  (rfl : reassemble 0xC4 (.zeroPage z) = _)⟩
theorem cpyAbs (a : Word) : Statement (.cpyAbs a) := ⟨(rfl : opcodeRow 0xCC = _), rfl, rfl,
  (rfl : reassemble 0xCC (.absolute a) = _)⟩
theorem decZp (z : Byte) : Statement (.decZp z) := ⟨(rfl : opcodeRow 0xC6 = _), rfl, rfl,
  (rfl : reassemble 0xC6 (.zeroPage z) = _)⟩
theorem decAbs (a : Word) : Statement (.decAbs a) := ⟨(rfl : opcodeRow 0xCE = _), rfl, rfl,
  (rfl : reassemble 0xCE (.absolute a) = _)⟩
theorem decZpX (z : Byte) : Statement (.decZpX z) := ⟨(rfl : opcodeRow 0xD6 = _), rfl, rfl,
  (rfl : reassemble 0xD6 (.zeroPageX z) = _)⟩
theorem decAbsX (a : Word) : Statement (.decAbsX a) := ⟨(rfl : opcodeRow 0xDE = _), rfl, rfl,
  (rfl : reassemble 0xDE (.absoluteX a) = _)⟩
theorem dex : Statement .dex := ⟨(rfl : opcodeRow 0xCA = _), rfl, rfl,
  (rfl : reassemble 0xCA .implied = _)⟩
theorem dey : Statement .dey := ⟨(rfl : opcodeRow 0x88 = _), rfl, rfl,
  (rfl : reassemble 0x88 .implied = _)⟩
theorem eorIndX (z : Byte) : Statement (.eorIndX z) := ⟨(rfl : opcodeRow 0x41 = _), rfl, rfl,
  (rfl : reassemble 0x41 (.indexedIndirect z) = _)⟩
theorem eorZp (z : Byte) : Statement (.eorZp z) := ⟨(rfl : opcodeRow 0x45 = _), rfl, rfl,
  (rfl : reassemble 0x45 (.zeroPage z) = _)⟩
theorem eorImm (v : Byte) : Statement (.eorImm v) := ⟨(rfl : opcodeRow 0x49 = _), rfl, rfl,
  (rfl : reassemble 0x49 (.immediate v) = _)⟩
theorem eorAbs (a : Word) : Statement (.eorAbs a) := ⟨(rfl : opcodeRow 0x4D = _), rfl, rfl,
  (rfl : reassemble 0x4D (.absolute a) = _)⟩
theorem eorIndY (z : Byte) : Statement (.eorIndY z) := ⟨(rfl : opcodeRow 0x51 = _), rfl, rfl,
  (rfl : reassemble 0x51 (.indirectIndexed z) = _)⟩
theorem eorZpX (z : Byte) : Statement (.eorZpX z) := ⟨(rfl : opcodeRow 0x55 = _), rfl, rfl,
  (rfl : reassemble 0x55 (.zeroPageX z) = _)⟩
theorem eorAbsY (a : Word) : Statement (.eorAbsY a) := ⟨(rfl : opcodeRow 0x59 = _), rfl, rfl,
  (rfl : reassemble 0x59 (.absoluteY a) = _)⟩
theorem eorAbsX (a : Word) : Statement (.eorAbsX a) := ⟨(rfl : opcodeRow 0x5D = _), rfl, rfl,
  (rfl : reassemble 0x5D (.absoluteX a) = _)⟩
theorem incZp (z : Byte) : Statement (.incZp z) := ⟨(rfl : opcodeRow 0xE6 = _), rfl, rfl,
  (rfl : reassemble 0xE6 (.zeroPage z) = _)⟩
theorem incAbs (a : Word) : Statement (.incAbs a) := ⟨(rfl : opcodeRow 0xEE = _), rfl, rfl,
  (rfl : reassemble 0xEE (.absolute a) = _)⟩
theorem incZpX (z : Byte) : Statement (.incZpX z) := ⟨(rfl : opcodeRow 0xF6 = _), rfl, rfl,
  (rfl : reassemble 0xF6 (.zeroPageX z) = _)⟩
theorem incAbsX (a : Word) : Statement (.incAbsX a) := ⟨(rfl : opcodeRow 0xFE = _), rfl, rfl,
  (rfl : reassemble 0xFE (.absoluteX a) = _)⟩
theorem inx : Statement .inx := ⟨(rfl : opcodeRow 0xE8 = _), rfl, rfl,
  (rfl : reassemble 0xE8 .implied = _)⟩
theorem iny : Statement .iny := ⟨(rfl : opcodeRow 0xC8 = _), rfl, rfl,
  (rfl : reassemble 0xC8 .implied = _)⟩
theorem jmpAbs (a : Word) : Statement (.jmpAbs a) := ⟨(rfl : opcodeRow 0x4C = _), rfl, rfl,
  (rfl : reassemble 0x4C (.absolute a) = _)⟩
theorem jmpInd (p : Word) : Statement (.jmpInd p) := ⟨(rfl : opcodeRow 0x6C = _), rfl, rfl,
  (rfl : reassemble 0x6C (.indirect p) = _)⟩
theorem jsrAbs (a : Word) : Statement (.jsrAbs a) := ⟨(rfl : opcodeRow 0x20 = _), rfl, rfl,
  (rfl : reassemble 0x20 (.absolute a) = _)⟩
theorem ldaIndX (z : Byte) : Statement (.ldaIndX z) := ⟨(rfl : opcodeRow 0xA1 = _), rfl, rfl,
  (rfl : reassemble 0xA1 (.indexedIndirect z) = _)⟩
theorem ldaZp (z : Byte) : Statement (.ldaZp z) := ⟨(rfl : opcodeRow 0xA5 = _), rfl, rfl,
  (rfl : reassemble 0xA5 (.zeroPage z) = _)⟩
theorem ldaImm (v : Byte) : Statement (.ldaImm v) := ⟨(rfl : opcodeRow 0xA9 = _), rfl, rfl,
  (rfl : reassemble 0xA9 (.immediate v) = _)⟩
theorem ldaAbs (a : Word) : Statement (.ldaAbs a) := ⟨(rfl : opcodeRow 0xAD = _), rfl, rfl,
  (rfl : reassemble 0xAD (.absolute a) = _)⟩
theorem ldaIndY (z : Byte) : Statement (.ldaIndY z) := ⟨(rfl : opcodeRow 0xB1 = _), rfl, rfl,
  (rfl : reassemble 0xB1 (.indirectIndexed z) = _)⟩
theorem ldaZpX (z : Byte) : Statement (.ldaZpX z) := ⟨(rfl : opcodeRow 0xB5 = _), rfl, rfl,
  (rfl : reassemble 0xB5 (.zeroPageX z) = _)⟩
theorem ldaAbsY (a : Word) : Statement (.ldaAbsY a) := ⟨(rfl : opcodeRow 0xB9 = _), rfl, rfl,
  (rfl : reassemble 0xB9 (.absoluteY a) = _)⟩
theorem ldaAbsX (a : Word) : Statement (.ldaAbsX a) := ⟨(rfl : opcodeRow 0xBD = _), rfl, rfl,
  (rfl : reassemble 0xBD (.absoluteX a) = _)⟩
theorem ldxImm (v : Byte) : Statement (.ldxImm v) := ⟨(rfl : opcodeRow 0xA2 = _), rfl, rfl,
  (rfl : reassemble 0xA2 (.immediate v) = _)⟩
theorem ldxZp (z : Byte) : Statement (.ldxZp z) := ⟨(rfl : opcodeRow 0xA6 = _), rfl, rfl,
  (rfl : reassemble 0xA6 (.zeroPage z) = _)⟩
theorem ldxAbs (a : Word) : Statement (.ldxAbs a) := ⟨(rfl : opcodeRow 0xAE = _), rfl, rfl,
  (rfl : reassemble 0xAE (.absolute a) = _)⟩
theorem ldxZpY (z : Byte) : Statement (.ldxZpY z) := ⟨(rfl : opcodeRow 0xB6 = _), rfl, rfl,
  (rfl : reassemble 0xB6 (.zeroPageY z) = _)⟩
theorem ldxAbsY (a : Word) : Statement (.ldxAbsY a) := ⟨(rfl : opcodeRow 0xBE = _), rfl, rfl,
  (rfl : reassemble 0xBE (.absoluteY a) = _)⟩
theorem ldyImm (v : Byte) : Statement (.ldyImm v) := ⟨(rfl : opcodeRow 0xA0 = _), rfl, rfl,
  (rfl : reassemble 0xA0 (.immediate v) = _)⟩
theorem ldyZp (z : Byte) : Statement (.ldyZp z) := ⟨(rfl : opcodeRow 0xA4 = _), rfl, rfl,
  (rfl : reassemble 0xA4 (.zeroPage z) = _)⟩
theorem ldyAbs (a : Word) : Statement (.ldyAbs a) := ⟨(rfl : opcodeRow 0xAC = _), rfl, rfl,
  (rfl : reassemble 0xAC (.absolute a) = _)⟩
theorem ldyZpX (z : Byte) : Statement (.ldyZpX z) := ⟨(rfl : opcodeRow 0xB4 = _), rfl, rfl,
  (rfl : reassemble 0xB4 (.zeroPageX z) = _)⟩
theorem ldyAbsX (a : Word) : Statement (.ldyAbsX a) := ⟨(rfl : opcodeRow 0xBC = _), rfl, rfl,
  (rfl : reassemble 0xBC (.absoluteX a) = _)⟩
theorem lsrZp (z : Byte) : Statement (.lsrZp z) := ⟨(rfl : opcodeRow 0x46 = _), rfl, rfl,
  (rfl : reassemble 0x46 (.zeroPage z) = _)⟩
theorem lsrAcc : Statement .lsrAcc := ⟨(rfl : opcodeRow 0x4A = _), rfl, rfl,
  (rfl : reassemble 0x4A .accumulator = _)⟩
theorem lsrAbs (a : Word) : Statement (.lsrAbs a) := ⟨(rfl : opcodeRow 0x4E = _), rfl, rfl,
  (rfl : reassemble 0x4E (.absolute a) = _)⟩
theorem lsrZpX (z : Byte) : Statement (.lsrZpX z) := ⟨(rfl : opcodeRow 0x56 = _), rfl, rfl,
  (rfl : reassemble 0x56 (.zeroPageX z) = _)⟩
theorem lsrAbsX (a : Word) : Statement (.lsrAbsX a) := ⟨(rfl : opcodeRow 0x5E = _), rfl, rfl,
  (rfl : reassemble 0x5E (.absoluteX a) = _)⟩
theorem nop : Statement .nop := ⟨(rfl : opcodeRow 0xEA = _), rfl, rfl,
  (rfl : reassemble 0xEA .implied = _)⟩
theorem oraIndX (z : Byte) : Statement (.oraIndX z) := ⟨(rfl : opcodeRow 0x01 = _), rfl, rfl,
  (rfl : reassemble 0x01 (.indexedIndirect z) = _)⟩
theorem oraZp (z : Byte) : Statement (.oraZp z) := ⟨(rfl : opcodeRow 0x05 = _), rfl, rfl,
  (rfl : reassemble 0x05 (.zeroPage z) = _)⟩
theorem oraImm (v : Byte) : Statement (.oraImm v) := ⟨(rfl : opcodeRow 0x09 = _), rfl, rfl,
  (rfl : reassemble 0x09 (.immediate v) = _)⟩
theorem oraAbs (a : Word) : Statement (.oraAbs a) := ⟨(rfl : opcodeRow 0x0D = _), rfl, rfl,
  (rfl : reassemble 0x0D (.absolute a) = _)⟩
theorem oraIndY (z : Byte) : Statement (.oraIndY z) := ⟨(rfl : opcodeRow 0x11 = _), rfl, rfl,
  (rfl : reassemble 0x11 (.indirectIndexed z) = _)⟩
theorem oraZpX (z : Byte) : Statement (.oraZpX z) := ⟨(rfl : opcodeRow 0x15 = _), rfl, rfl,
  (rfl : reassemble 0x15 (.zeroPageX z) = _)⟩
theorem oraAbsY (a : Word) : Statement (.oraAbsY a) := ⟨(rfl : opcodeRow 0x19 = _), rfl, rfl,
  (rfl : reassemble 0x19 (.absoluteY a) = _)⟩
theorem oraAbsX (a : Word) : Statement (.oraAbsX a) := ⟨(rfl : opcodeRow 0x1D = _), rfl, rfl,
  (rfl : reassemble 0x1D (.absoluteX a) = _)⟩
theorem pha : Statement .pha := ⟨(rfl : opcodeRow 0x48 = _), rfl, rfl,
  (rfl : reassemble 0x48 .implied = _)⟩
theorem php : Statement .php := ⟨(rfl : opcodeRow 0x08 = _), rfl, rfl,
  (rfl : reassemble 0x08 .implied = _)⟩
theorem pla : Statement .pla := ⟨(rfl : opcodeRow 0x68 = _), rfl, rfl,
  (rfl : reassemble 0x68 .implied = _)⟩
theorem plp : Statement .plp := ⟨(rfl : opcodeRow 0x28 = _), rfl, rfl,
  (rfl : reassemble 0x28 .implied = _)⟩
theorem rolZp (z : Byte) : Statement (.rolZp z) := ⟨(rfl : opcodeRow 0x26 = _), rfl, rfl,
  (rfl : reassemble 0x26 (.zeroPage z) = _)⟩
theorem rolAcc : Statement .rolAcc := ⟨(rfl : opcodeRow 0x2A = _), rfl, rfl,
  (rfl : reassemble 0x2A .accumulator = _)⟩
theorem rolAbs (a : Word) : Statement (.rolAbs a) := ⟨(rfl : opcodeRow 0x2E = _), rfl, rfl,
  (rfl : reassemble 0x2E (.absolute a) = _)⟩
theorem rolZpX (z : Byte) : Statement (.rolZpX z) := ⟨(rfl : opcodeRow 0x36 = _), rfl, rfl,
  (rfl : reassemble 0x36 (.zeroPageX z) = _)⟩
theorem rolAbsX (a : Word) : Statement (.rolAbsX a) := ⟨(rfl : opcodeRow 0x3E = _), rfl, rfl,
  (rfl : reassemble 0x3E (.absoluteX a) = _)⟩
theorem rorZp (z : Byte) : Statement (.rorZp z) := ⟨(rfl : opcodeRow 0x66 = _), rfl, rfl,
  (rfl : reassemble 0x66 (.zeroPage z) = _)⟩
theorem rorAcc : Statement .rorAcc := ⟨(rfl : opcodeRow 0x6A = _), rfl, rfl,
  (rfl : reassemble 0x6A .accumulator = _)⟩
theorem rorAbs (a : Word) : Statement (.rorAbs a) := ⟨(rfl : opcodeRow 0x6E = _), rfl, rfl,
  (rfl : reassemble 0x6E (.absolute a) = _)⟩
theorem rorZpX (z : Byte) : Statement (.rorZpX z) := ⟨(rfl : opcodeRow 0x76 = _), rfl, rfl,
  (rfl : reassemble 0x76 (.zeroPageX z) = _)⟩
theorem rorAbsX (a : Word) : Statement (.rorAbsX a) := ⟨(rfl : opcodeRow 0x7E = _), rfl, rfl,
  (rfl : reassemble 0x7E (.absoluteX a) = _)⟩
theorem rti : Statement .rti := ⟨(rfl : opcodeRow 0x40 = _), rfl, rfl,
  (rfl : reassemble 0x40 .implied = _)⟩
theorem rts : Statement .rts := ⟨(rfl : opcodeRow 0x60 = _), rfl, rfl,
  (rfl : reassemble 0x60 .implied = _)⟩
theorem sbcIndX (z : Byte) : Statement (.sbcIndX z) := ⟨(rfl : opcodeRow 0xE1 = _), rfl, rfl,
  (rfl : reassemble 0xE1 (.indexedIndirect z) = _)⟩
theorem sbcZp (z : Byte) : Statement (.sbcZp z) := ⟨(rfl : opcodeRow 0xE5 = _), rfl, rfl,
  (rfl : reassemble 0xE5 (.zeroPage z) = _)⟩
theorem sbcImm (v : Byte) : Statement (.sbcImm v) := ⟨(rfl : opcodeRow 0xE9 = _), rfl, rfl,
  (rfl : reassemble 0xE9 (.immediate v) = _)⟩
theorem sbcAbs (a : Word) : Statement (.sbcAbs a) := ⟨(rfl : opcodeRow 0xED = _), rfl, rfl,
  (rfl : reassemble 0xED (.absolute a) = _)⟩
theorem sbcIndY (z : Byte) : Statement (.sbcIndY z) := ⟨(rfl : opcodeRow 0xF1 = _), rfl, rfl,
  (rfl : reassemble 0xF1 (.indirectIndexed z) = _)⟩
theorem sbcZpX (z : Byte) : Statement (.sbcZpX z) := ⟨(rfl : opcodeRow 0xF5 = _), rfl, rfl,
  (rfl : reassemble 0xF5 (.zeroPageX z) = _)⟩
theorem sbcAbsY (a : Word) : Statement (.sbcAbsY a) := ⟨(rfl : opcodeRow 0xF9 = _), rfl, rfl,
  (rfl : reassemble 0xF9 (.absoluteY a) = _)⟩
theorem sbcAbsX (a : Word) : Statement (.sbcAbsX a) := ⟨(rfl : opcodeRow 0xFD = _), rfl, rfl,
  (rfl : reassemble 0xFD (.absoluteX a) = _)⟩
theorem sec : Statement .sec := ⟨(rfl : opcodeRow 0x38 = _), rfl, rfl,
  (rfl : reassemble 0x38 .implied = _)⟩
theorem sed : Statement .sed := ⟨(rfl : opcodeRow 0xF8 = _), rfl, rfl,
  (rfl : reassemble 0xF8 .implied = _)⟩
theorem sei : Statement .sei := ⟨(rfl : opcodeRow 0x78 = _), rfl, rfl,
  (rfl : reassemble 0x78 .implied = _)⟩
theorem staIndX (z : Byte) : Statement (.staIndX z) := ⟨(rfl : opcodeRow 0x81 = _), rfl, rfl,
  (rfl : reassemble 0x81 (.indexedIndirect z) = _)⟩
theorem staZp (z : Byte) : Statement (.staZp z) := ⟨(rfl : opcodeRow 0x85 = _), rfl, rfl,
  (rfl : reassemble 0x85 (.zeroPage z) = _)⟩
theorem staAbs (a : Word) : Statement (.staAbs a) := ⟨(rfl : opcodeRow 0x8D = _), rfl, rfl,
  (rfl : reassemble 0x8D (.absolute a) = _)⟩
theorem staIndY (z : Byte) : Statement (.staIndY z) := ⟨(rfl : opcodeRow 0x91 = _), rfl, rfl,
  (rfl : reassemble 0x91 (.indirectIndexed z) = _)⟩
theorem staZpX (z : Byte) : Statement (.staZpX z) := ⟨(rfl : opcodeRow 0x95 = _), rfl, rfl,
  (rfl : reassemble 0x95 (.zeroPageX z) = _)⟩
theorem staAbsY (a : Word) : Statement (.staAbsY a) := ⟨(rfl : opcodeRow 0x99 = _), rfl, rfl,
  (rfl : reassemble 0x99 (.absoluteY a) = _)⟩
theorem staAbsX (a : Word) : Statement (.staAbsX a) := ⟨(rfl : opcodeRow 0x9D = _), rfl, rfl,
  (rfl : reassemble 0x9D (.absoluteX a) = _)⟩
theorem stxZp (z : Byte) : Statement (.stxZp z) := ⟨(rfl : opcodeRow 0x86 = _), rfl, rfl,
  (rfl : reassemble 0x86 (.zeroPage z) = _)⟩
theorem stxAbs (a : Word) : Statement (.stxAbs a) := ⟨(rfl : opcodeRow 0x8E = _), rfl, rfl,
  (rfl : reassemble 0x8E (.absolute a) = _)⟩
theorem stxZpY (z : Byte) : Statement (.stxZpY z) := ⟨(rfl : opcodeRow 0x96 = _), rfl, rfl,
  (rfl : reassemble 0x96 (.zeroPageY z) = _)⟩
theorem styZp (z : Byte) : Statement (.styZp z) := ⟨(rfl : opcodeRow 0x84 = _), rfl, rfl,
  (rfl : reassemble 0x84 (.zeroPage z) = _)⟩
theorem styAbs (a : Word) : Statement (.styAbs a) := ⟨(rfl : opcodeRow 0x8C = _), rfl, rfl,
  (rfl : reassemble 0x8C (.absolute a) = _)⟩
theorem styZpX (z : Byte) : Statement (.styZpX z) := ⟨(rfl : opcodeRow 0x94 = _), rfl, rfl,
  (rfl : reassemble 0x94 (.zeroPageX z) = _)⟩
theorem tax : Statement .tax := ⟨(rfl : opcodeRow 0xAA = _), rfl, rfl,
  (rfl : reassemble 0xAA .implied = _)⟩
theorem tay : Statement .tay := ⟨(rfl : opcodeRow 0xA8 = _), rfl, rfl,
  (rfl : reassemble 0xA8 .implied = _)⟩
theorem tsx : Statement .tsx := ⟨(rfl : opcodeRow 0xBA = _), rfl, rfl,
  (rfl : reassemble 0xBA .implied = _)⟩
theorem txa : Statement .txa := ⟨(rfl : opcodeRow 0x8A = _), rfl, rfl,
  (rfl : reassemble 0x8A .implied = _)⟩
theorem txs : Statement .txs := ⟨(rfl : opcodeRow 0x9A = _), rfl, rfl,
  (rfl : reassemble 0x9A .implied = _)⟩
theorem tya : Statement .tya := ⟨(rfl : opcodeRow 0x98 = _), rfl, rfl,
  (rfl : reassemble 0x98 .implied = _)⟩
theorem undoc02 : Statement .undoc02 := ⟨(rfl : opcodeRow 0x02 = _), rfl, rfl,
  (rfl : reassemble 0x02 .implied = _)⟩
theorem undoc03 (z : Byte) : Statement (.undoc03 z) := ⟨(rfl : opcodeRow 0x03 = _), rfl, rfl,
  (rfl : reassemble 0x03 (.indexedIndirect z) = _)⟩
theorem undoc04 (z : Byte) : Statement (.undoc04 z) := ⟨(rfl : opcodeRow 0x04 = _), rfl, rfl,
  (rfl : reassemble 0x04 (.zeroPage z) = _)⟩
theorem undoc07 (z : Byte) : Statement (.undoc07 z) := ⟨(rfl : opcodeRow 0x07 = _), rfl, rfl,
  (rfl : reassemble 0x07 (.zeroPage z) = _)⟩
theorem undoc0B (v : Byte) : Statement (.undoc0B v) := ⟨(rfl : opcodeRow 0x0B = _), rfl, rfl,
  (rfl : reassemble 0x0B (.immediate v) = _)⟩
theorem undoc0C (a : Word) : Statement (.undoc0C a) := ⟨(rfl : opcodeRow 0x0C = _), rfl, rfl,
  (rfl : reassemble 0x0C (.absolute a) = _)⟩
theorem undoc0F (a : Word) : Statement (.undoc0F a) := ⟨(rfl : opcodeRow 0x0F = _), rfl, rfl,
  (rfl : reassemble 0x0F (.absolute a) = _)⟩
theorem undoc12 : Statement .undoc12 := ⟨(rfl : opcodeRow 0x12 = _), rfl, rfl,
  (rfl : reassemble 0x12 .implied = _)⟩
theorem undoc13 (z : Byte) : Statement (.undoc13 z) := ⟨(rfl : opcodeRow 0x13 = _), rfl, rfl,
  (rfl : reassemble 0x13 (.indirectIndexed z) = _)⟩
theorem undoc14 (z : Byte) : Statement (.undoc14 z) := ⟨(rfl : opcodeRow 0x14 = _), rfl, rfl,
  (rfl : reassemble 0x14 (.zeroPageX z) = _)⟩
theorem undoc17 (z : Byte) : Statement (.undoc17 z) := ⟨(rfl : opcodeRow 0x17 = _), rfl, rfl,
  (rfl : reassemble 0x17 (.zeroPageX z) = _)⟩
theorem undoc1A : Statement .undoc1A := ⟨(rfl : opcodeRow 0x1A = _), rfl, rfl,
  (rfl : reassemble 0x1A .implied = _)⟩
theorem undoc1B (a : Word) : Statement (.undoc1B a) := ⟨(rfl : opcodeRow 0x1B = _), rfl, rfl,
  (rfl : reassemble 0x1B (.absoluteY a) = _)⟩
theorem undoc1C (a : Word) : Statement (.undoc1C a) := ⟨(rfl : opcodeRow 0x1C = _), rfl, rfl,
  (rfl : reassemble 0x1C (.absoluteX a) = _)⟩
theorem undoc1F (a : Word) : Statement (.undoc1F a) := ⟨(rfl : opcodeRow 0x1F = _), rfl, rfl,
  (rfl : reassemble 0x1F (.absoluteX a) = _)⟩
theorem undoc22 : Statement .undoc22 := ⟨(rfl : opcodeRow 0x22 = _), rfl, rfl,
  (rfl : reassemble 0x22 .implied = _)⟩
theorem undoc23 (z : Byte) : Statement (.undoc23 z) := ⟨(rfl : opcodeRow 0x23 = _), rfl, rfl,
  (rfl : reassemble 0x23 (.indexedIndirect z) = _)⟩
theorem undoc27 (z : Byte) : Statement (.undoc27 z) := ⟨(rfl : opcodeRow 0x27 = _), rfl, rfl,
  (rfl : reassemble 0x27 (.zeroPage z) = _)⟩
theorem undoc2B (v : Byte) : Statement (.undoc2B v) := ⟨(rfl : opcodeRow 0x2B = _), rfl, rfl,
  (rfl : reassemble 0x2B (.immediate v) = _)⟩
theorem undoc2F (a : Word) : Statement (.undoc2F a) := ⟨(rfl : opcodeRow 0x2F = _), rfl, rfl,
  (rfl : reassemble 0x2F (.absolute a) = _)⟩
theorem undoc32 : Statement .undoc32 := ⟨(rfl : opcodeRow 0x32 = _), rfl, rfl,
  (rfl : reassemble 0x32 .implied = _)⟩
theorem undoc33 (z : Byte) : Statement (.undoc33 z) := ⟨(rfl : opcodeRow 0x33 = _), rfl, rfl,
  (rfl : reassemble 0x33 (.indirectIndexed z) = _)⟩
theorem undoc34 (z : Byte) : Statement (.undoc34 z) := ⟨(rfl : opcodeRow 0x34 = _), rfl, rfl,
  (rfl : reassemble 0x34 (.zeroPageX z) = _)⟩
theorem undoc37 (z : Byte) : Statement (.undoc37 z) := ⟨(rfl : opcodeRow 0x37 = _), rfl, rfl,
  (rfl : reassemble 0x37 (.zeroPageX z) = _)⟩
theorem undoc3A : Statement .undoc3A := ⟨(rfl : opcodeRow 0x3A = _), rfl, rfl,
  (rfl : reassemble 0x3A .implied = _)⟩
theorem undoc3B (a : Word) : Statement (.undoc3B a) := ⟨(rfl : opcodeRow 0x3B = _), rfl, rfl,
  (rfl : reassemble 0x3B (.absoluteY a) = _)⟩
theorem undoc3C (a : Word) : Statement (.undoc3C a) := ⟨(rfl : opcodeRow 0x3C = _), rfl, rfl,
  (rfl : reassemble 0x3C (.absoluteX a) = _)⟩
theorem undoc3F (a : Word) : Statement (.undoc3F a) := ⟨(rfl : opcodeRow 0x3F = _), rfl, rfl,
  (rfl : reassemble 0x3F (.absoluteX a) = _)⟩
theorem undoc42 : Statement .undoc42 := ⟨(rfl : opcodeRow 0x42 = _), rfl, rfl,
  (rfl : reassemble 0x42 .implied = _)⟩
theorem undoc43 (z : Byte) : Statement (.undoc43 z) := ⟨(rfl : opcodeRow 0x43 = _), rfl, rfl,
  (rfl : reassemble 0x43 (.indexedIndirect z) = _)⟩
theorem undoc44 (z : Byte) : Statement (.undoc44 z) := ⟨(rfl : opcodeRow 0x44 = _), rfl, rfl,
  (rfl : reassemble 0x44 (.zeroPage z) = _)⟩
theorem undoc47 (z : Byte) : Statement (.undoc47 z) := ⟨(rfl : opcodeRow 0x47 = _), rfl, rfl,
  (rfl : reassemble 0x47 (.zeroPage z) = _)⟩
theorem undoc4B (v : Byte) : Statement (.undoc4B v) := ⟨(rfl : opcodeRow 0x4B = _), rfl, rfl,
  (rfl : reassemble 0x4B (.immediate v) = _)⟩
theorem undoc4F (a : Word) : Statement (.undoc4F a) := ⟨(rfl : opcodeRow 0x4F = _), rfl, rfl,
  (rfl : reassemble 0x4F (.absolute a) = _)⟩
theorem undoc52 : Statement .undoc52 := ⟨(rfl : opcodeRow 0x52 = _), rfl, rfl,
  (rfl : reassemble 0x52 .implied = _)⟩
theorem undoc53 (z : Byte) : Statement (.undoc53 z) := ⟨(rfl : opcodeRow 0x53 = _), rfl, rfl,
  (rfl : reassemble 0x53 (.indirectIndexed z) = _)⟩
theorem undoc54 (z : Byte) : Statement (.undoc54 z) := ⟨(rfl : opcodeRow 0x54 = _), rfl, rfl,
  (rfl : reassemble 0x54 (.zeroPageX z) = _)⟩
theorem undoc57 (z : Byte) : Statement (.undoc57 z) := ⟨(rfl : opcodeRow 0x57 = _), rfl, rfl,
  (rfl : reassemble 0x57 (.zeroPageX z) = _)⟩
theorem undoc5A : Statement .undoc5A := ⟨(rfl : opcodeRow 0x5A = _), rfl, rfl,
  (rfl : reassemble 0x5A .implied = _)⟩
theorem undoc5B (a : Word) : Statement (.undoc5B a) := ⟨(rfl : opcodeRow 0x5B = _), rfl, rfl,
  (rfl : reassemble 0x5B (.absoluteY a) = _)⟩
theorem undoc5C (a : Word) : Statement (.undoc5C a) := ⟨(rfl : opcodeRow 0x5C = _), rfl, rfl,
  (rfl : reassemble 0x5C (.absoluteX a) = _)⟩
theorem undoc5F (a : Word) : Statement (.undoc5F a) := ⟨(rfl : opcodeRow 0x5F = _), rfl, rfl,
  (rfl : reassemble 0x5F (.absoluteX a) = _)⟩
theorem undoc62 : Statement .undoc62 := ⟨(rfl : opcodeRow 0x62 = _), rfl, rfl,
  (rfl : reassemble 0x62 .implied = _)⟩
theorem undoc63 (z : Byte) : Statement (.undoc63 z) := ⟨(rfl : opcodeRow 0x63 = _), rfl, rfl,
  (rfl : reassemble 0x63 (.indexedIndirect z) = _)⟩
theorem undoc64 (z : Byte) : Statement (.undoc64 z) := ⟨(rfl : opcodeRow 0x64 = _), rfl, rfl,
  (rfl : reassemble 0x64 (.zeroPage z) = _)⟩
theorem undoc67 (z : Byte) : Statement (.undoc67 z) := ⟨(rfl : opcodeRow 0x67 = _), rfl, rfl,
  (rfl : reassemble 0x67 (.zeroPage z) = _)⟩
theorem undoc6B (v : Byte) : Statement (.undoc6B v) := ⟨(rfl : opcodeRow 0x6B = _), rfl, rfl,
  (rfl : reassemble 0x6B (.immediate v) = _)⟩
theorem undoc6F (a : Word) : Statement (.undoc6F a) := ⟨(rfl : opcodeRow 0x6F = _), rfl, rfl,
  (rfl : reassemble 0x6F (.absolute a) = _)⟩
theorem undoc72 : Statement .undoc72 := ⟨(rfl : opcodeRow 0x72 = _), rfl, rfl,
  (rfl : reassemble 0x72 .implied = _)⟩
theorem undoc73 (z : Byte) : Statement (.undoc73 z) := ⟨(rfl : opcodeRow 0x73 = _), rfl, rfl,
  (rfl : reassemble 0x73 (.indirectIndexed z) = _)⟩
theorem undoc74 (z : Byte) : Statement (.undoc74 z) := ⟨(rfl : opcodeRow 0x74 = _), rfl, rfl,
  (rfl : reassemble 0x74 (.zeroPageX z) = _)⟩
theorem undoc77 (z : Byte) : Statement (.undoc77 z) := ⟨(rfl : opcodeRow 0x77 = _), rfl, rfl,
  (rfl : reassemble 0x77 (.zeroPageX z) = _)⟩
theorem undoc7A : Statement .undoc7A := ⟨(rfl : opcodeRow 0x7A = _), rfl, rfl,
  (rfl : reassemble 0x7A .implied = _)⟩
theorem undoc7B (a : Word) : Statement (.undoc7B a) := ⟨(rfl : opcodeRow 0x7B = _), rfl, rfl,
  (rfl : reassemble 0x7B (.absoluteY a) = _)⟩
theorem undoc7C (a : Word) : Statement (.undoc7C a) := ⟨(rfl : opcodeRow 0x7C = _), rfl, rfl,
  (rfl : reassemble 0x7C (.absoluteX a) = _)⟩
theorem undoc7F (a : Word) : Statement (.undoc7F a) := ⟨(rfl : opcodeRow 0x7F = _), rfl, rfl,
  (rfl : reassemble 0x7F (.absoluteX a) = _)⟩
theorem undoc80 (v : Byte) : Statement (.undoc80 v) := ⟨(rfl : opcodeRow 0x80 = _), rfl, rfl,
  (rfl : reassemble 0x80 (.immediate v) = _)⟩
theorem undoc82 (v : Byte) : Statement (.undoc82 v) := ⟨(rfl : opcodeRow 0x82 = _), rfl, rfl,
  (rfl : reassemble 0x82 (.immediate v) = _)⟩
theorem undoc83 (z : Byte) : Statement (.undoc83 z) := ⟨(rfl : opcodeRow 0x83 = _), rfl, rfl,
  (rfl : reassemble 0x83 (.indexedIndirect z) = _)⟩
theorem undoc87 (z : Byte) : Statement (.undoc87 z) := ⟨(rfl : opcodeRow 0x87 = _), rfl, rfl,
  (rfl : reassemble 0x87 (.zeroPage z) = _)⟩
theorem undoc89 (v : Byte) : Statement (.undoc89 v) := ⟨(rfl : opcodeRow 0x89 = _), rfl, rfl,
  (rfl : reassemble 0x89 (.immediate v) = _)⟩
theorem undoc8B (v : Byte) : Statement (.undoc8B v) := ⟨(rfl : opcodeRow 0x8B = _), rfl, rfl,
  (rfl : reassemble 0x8B (.immediate v) = _)⟩
theorem undoc8F (a : Word) : Statement (.undoc8F a) := ⟨(rfl : opcodeRow 0x8F = _), rfl, rfl,
  (rfl : reassemble 0x8F (.absolute a) = _)⟩
theorem undoc92 : Statement .undoc92 := ⟨(rfl : opcodeRow 0x92 = _), rfl, rfl,
  (rfl : reassemble 0x92 .implied = _)⟩
theorem undoc93 (z : Byte) : Statement (.undoc93 z) := ⟨(rfl : opcodeRow 0x93 = _), rfl, rfl,
  (rfl : reassemble 0x93 (.indirectIndexed z) = _)⟩
theorem undoc97 (z : Byte) : Statement (.undoc97 z) := ⟨(rfl : opcodeRow 0x97 = _), rfl, rfl,
  (rfl : reassemble 0x97 (.zeroPageY z) = _)⟩
theorem undoc9B (a : Word) : Statement (.undoc9B a) := ⟨(rfl : opcodeRow 0x9B = _), rfl, rfl,
  (rfl : reassemble 0x9B (.absoluteY a) = _)⟩
theorem undoc9C (a : Word) : Statement (.undoc9C a) := ⟨(rfl : opcodeRow 0x9C = _), rfl, rfl,
  (rfl : reassemble 0x9C (.absoluteX a) = _)⟩
theorem undoc9E (a : Word) : Statement (.undoc9E a) := ⟨(rfl : opcodeRow 0x9E = _), rfl, rfl,
  (rfl : reassemble 0x9E (.absoluteY a) = _)⟩
theorem undoc9F (a : Word) : Statement (.undoc9F a) := ⟨(rfl : opcodeRow 0x9F = _), rfl, rfl,
  (rfl : reassemble 0x9F (.absoluteY a) = _)⟩
theorem undocA3 (z : Byte) : Statement (.undocA3 z) := ⟨(rfl : opcodeRow 0xA3 = _), rfl, rfl,
  (rfl : reassemble 0xA3 (.indexedIndirect z) = _)⟩
theorem undocA7 (z : Byte) : Statement (.undocA7 z) := ⟨(rfl : opcodeRow 0xA7 = _), rfl, rfl,
  (rfl : reassemble 0xA7 (.zeroPage z) = _)⟩
theorem undocAB (v : Byte) : Statement (.undocAB v) := ⟨(rfl : opcodeRow 0xAB = _), rfl, rfl,
  (rfl : reassemble 0xAB (.immediate v) = _)⟩
theorem undocAF (a : Word) : Statement (.undocAF a) := ⟨(rfl : opcodeRow 0xAF = _), rfl, rfl,
  (rfl : reassemble 0xAF (.absolute a) = _)⟩
theorem undocB2 : Statement .undocB2 := ⟨(rfl : opcodeRow 0xB2 = _), rfl, rfl,
  (rfl : reassemble 0xB2 .implied = _)⟩
theorem undocB3 (z : Byte) : Statement (.undocB3 z) := ⟨(rfl : opcodeRow 0xB3 = _), rfl, rfl,
  (rfl : reassemble 0xB3 (.indirectIndexed z) = _)⟩
theorem undocB7 (z : Byte) : Statement (.undocB7 z) := ⟨(rfl : opcodeRow 0xB7 = _), rfl, rfl,
  (rfl : reassemble 0xB7 (.zeroPageY z) = _)⟩
theorem undocBB (a : Word) : Statement (.undocBB a) := ⟨(rfl : opcodeRow 0xBB = _), rfl, rfl,
  (rfl : reassemble 0xBB (.absoluteY a) = _)⟩
theorem undocBF (a : Word) : Statement (.undocBF a) := ⟨(rfl : opcodeRow 0xBF = _), rfl, rfl,
  (rfl : reassemble 0xBF (.absoluteY a) = _)⟩
theorem undocC2 (v : Byte) : Statement (.undocC2 v) := ⟨(rfl : opcodeRow 0xC2 = _), rfl, rfl,
  (rfl : reassemble 0xC2 (.immediate v) = _)⟩
theorem undocC3 (z : Byte) : Statement (.undocC3 z) := ⟨(rfl : opcodeRow 0xC3 = _), rfl, rfl,
  (rfl : reassemble 0xC3 (.indexedIndirect z) = _)⟩
theorem undocC7 (z : Byte) : Statement (.undocC7 z) := ⟨(rfl : opcodeRow 0xC7 = _), rfl, rfl,
  (rfl : reassemble 0xC7 (.zeroPage z) = _)⟩
theorem undocCB (v : Byte) : Statement (.undocCB v) := ⟨(rfl : opcodeRow 0xCB = _), rfl, rfl,
  (rfl : reassemble 0xCB (.immediate v) = _)⟩
theorem undocCF (a : Word) : Statement (.undocCF a) := ⟨(rfl : opcodeRow 0xCF = _), rfl, rfl,
  (rfl : reassemble 0xCF (.absolute a) = _)⟩
theorem undocD2 : Statement .undocD2 := ⟨(rfl : opcodeRow 0xD2 = _), rfl, rfl,
  (rfl : reassemble 0xD2 .implied = _)⟩
theorem undocD3 (z : Byte) : Statement (.undocD3 z) := ⟨(rfl : opcodeRow 0xD3 = _), rfl, rfl,
  (rfl : reassemble 0xD3 (.indirectIndexed z) = _)⟩
theorem undocD4 (z : Byte) : Statement (.undocD4 z) := ⟨(rfl : opcodeRow 0xD4 = _), rfl, rfl,
  (rfl : reassemble 0xD4 (.zeroPageX z) = _)⟩
theorem undocD7 (z : Byte) : Statement (.undocD7 z) := ⟨(rfl : opcodeRow 0xD7 = _), rfl, rfl,
  (rfl : reassemble 0xD7 (.zeroPageX z) = _)⟩
theorem undocDA : Statement .undocDA := ⟨(rfl : opcodeRow 0xDA = _), rfl, rfl,
  (rfl : reassemble 0xDA .implied = _)⟩
theorem undocDB (a : Word) : Statement (.undocDB a) := ⟨(rfl : opcodeRow 0xDB = _), rfl, rfl,
  (rfl : reassemble 0xDB (.absoluteY a) = _)⟩
theorem undocDC (a : Word) : Statement (.undocDC a) := ⟨(rfl : opcodeRow 0xDC = _), rfl, rfl,
  (rfl : reassemble 0xDC (.absoluteX a) = _)⟩
theorem undocDF (a : Word) : Statement (.undocDF a) := ⟨(rfl : opcodeRow 0xDF = _), rfl, rfl,
  (rfl : reassemble 0xDF (.absoluteX a) = _)⟩
theorem undocE2 (v : Byte) : Statement (.undocE2 v) := ⟨(rfl : opcodeRow 0xE2 = _), rfl, rfl,
  (rfl : reassemble 0xE2 (.immediate v) = _)⟩
theorem undocE3 (z : Byte) : Statement (.undocE3 z) := ⟨(rfl : opcodeRow 0xE3 = _), rfl, rfl,
  (rfl : reassemble 0xE3 (.indexedIndirect z) = _)⟩
theorem undocE7 (z : Byte) : Statement (.undocE7 z) := ⟨(rfl : opcodeRow 0xE7 = _), rfl, rfl,
  (rfl : reassemble 0xE7 (.zeroPage z) = _)⟩
theorem undocEB (v : Byte) : Statement (.undocEB v) := ⟨(rfl : opcodeRow 0xEB = _), rfl, rfl,
  (rfl : reassemble 0xEB (.immediate v) = _)⟩
theorem undocEF (a : Word) : Statement (.undocEF a) := ⟨(rfl : opcodeRow 0xEF = _), rfl, rfl,
  (rfl : reassemble 0xEF (.absolute a) = _)⟩
theorem undocF2 : Statement .undocF2 := ⟨(rfl : opcodeRow 0xF2 = _), rfl, rfl,
  (rfl : reassemble 0xF2 .implied = _)⟩
theorem undocF3 (z : Byte) : Statement (.undocF3 z) := ⟨(rfl : opcodeRow 0xF3 = _), rfl, rfl,
  (rfl : reassemble 0xF3 (.indirectIndexed z) = _)⟩
theorem undocF4 (z : Byte) : Statement (.undocF4 z) := ⟨(rfl : opcodeRow 0xF4 = _), rfl, rfl,
  (rfl : reassemble 0xF4 (.zeroPageX z) = _)⟩
theorem undocF7 (z : Byte) : Statement (.undocF7 z) := ⟨(rfl : opcodeRow 0xF7 = _), rfl, rfl,
  (rfl : reassemble 0xF7 (.zeroPageX z) = _)⟩
theorem undocFA : Statement .undocFA := ⟨(rfl : opcodeRow 0xFA = _), rfl, rfl,
  (rfl : reassemble 0xFA .implied = _)⟩
theorem undocFB (a : Word) : Statement (.undocFB a) := ⟨(rfl : opcodeRow 0xFB = _), rfl, rfl,
  (rfl : reassemble 0xFB (.absoluteY a) = _)⟩
theorem undocFC (a : Word) : Statement (.undocFC a) := ⟨(rfl : opcodeRow 0xFC = _), rfl, rfl,
  (rfl : reassemble 0xFC (.absoluteX a) = _)⟩
theorem undocFF (a : Word) : Statement (.undocFF a) := ⟨(rfl : opcodeRow 0xFF = _), rfl, rfl,
  (rfl : reassemble 0xFF (.absoluteX a) = _)⟩

end Sys2Proof.Laws.TableRow
end

