-- ==== Sys2Proof/Laws/Ppu.lean ====
section
/-! SUPPORT. What the picture processor's operations change: a read of its own memory changes nothing of it, a mapper's
write callback nothing but the interception, a tick leaves the processor's registers and the backing array alone and keeps
the invariant. -/

namespace Sys2Proof.Machine

/-- Nothing of the picture processor changed but the mapper's interception of its address space. -/
structure PictureKept (s t : State) : Prop where
  ppu : t.ppu = { s.ppu with slots := t.ppu.slots }
  oam : t.ppu.oam = s.ppu.oam

theorem PictureKept.refl (s : State) : PictureKept s s := ⟨rfl, rfl⟩

theorem PictureKept.trans {s t u : State} (h : PictureKept s t) (k : PictureKept t u) : PictureKept s u :=
  ⟨by rw [k.ppu, h.ppu], k.oam.trans h.oam⟩

theorem PictureKept.after {s t u : State} (k : PictureKept t u) (h : t.ppu = s.ppu) : PictureKept s u :=
  PictureKept.trans ⟨by rw [h], by rw [h]⟩ k

theorem PictureKept.of_eq {s t : State} (h : t.ppu = s.ppu) : PictureKept s t := ⟨by rw [h], by rw [h]⟩

theorem applyMapperWriteAction_picture (s : State) (x : MapperWriteAction) :
    PictureKept s (applyMapperWriteAction s x) := by
  cases x with
  | signal x => exact PictureKept.of_eq (applyMapperActions_wiring [x] s).2
  | _ => exact ⟨rfl, rfl⟩

theorem applyMapperWriteActions_picture : ∀ (l : List MapperWriteAction) (s : State),
    PictureKept s (applyMapperWriteActions l s)
  | [], s => PictureKept.refl s
  | x :: rest, s =>
    (applyMapperWriteAction_picture s x).trans (applyMapperWriteActions_picture rest (applyMapperWriteAction s x))

theorem mapperChrWrite_picture (s : State) : PictureKept s (mapperChrWrite s) := by
  unfold mapperChrWrite
  split
  · exact PictureKept.refl s
  · exact (applyMapperWriteActions_picture _ _).after rfl

theorem mapperChrRead_picture (s : State) : PictureKept s (mapperChrRead s).2 :=
  PictureKept.of_eq (mapperChrRead_wiring s).2

theorem mapperVideo_picture (s : State) : PictureKept s (mapperVideo s) := PictureKept.of_eq (mapperVideo_wiring s).2

/-- A read of the picture processor's space changes nothing of it. -/
theorem ppuRead_picture (a : Nat) (s : State) : PictureKept s (ppuRead a s).2 :=
  PictureKept.of_eq (ppuRead_wiring a s).2

theorem enhanceTileIndex_quiet (b : Byte) (s : State) : Quiet s (enhanceTileIndex b s).2 := by
  unfold enhanceTileIndex
  split <;> exact ⟨rfl, rfl⟩

theorem enhanceTileAttributes_quiet (b : Byte) (s : State) : Quiet s (enhanceTileAttributes b s).2 := by
  unfold enhanceTileAttributes
  split <;> exact ⟨rfl, rfl⟩

theorem enhanceTileIndex_inv (b : Byte) (s : State) (h : s.Inv) : (enhanceTileIndex b s).2.Inv := by
  unfold enhanceTileIndex
  split <;> exact h

theorem enhanceTileAttributes_inv (b : Byte) (s : State) (h : s.Inv) : (enhanceTileAttributes b s).2.Inv := by
  unfold enhanceTileAttributes
  split <;> exact h

theorem nmiCountdown_quiet (s : State) : Quiet s (nmiCountdown s) := by
  unfold nmiCountdown
  split
  · exact Quiet.refl s
  · dsimp only
    split <;> exact ⟨rfl, rfl⟩

theorem nmiCountdown_inv (s : State) (h : s.Inv) : (nmiCountdown s).Inv := by
  obtain ⟨hb, c1, c2, c3, c4⟩ := h
  unfold nmiCountdown
  split
  · exact ⟨hb, c1, c2, c3, c4⟩
  · dsimp only
    split <;> exact ⟨hb, c1, c2, Nat.le_trans (Nat.sub_le _ _) c3, c4⟩

theorem composite_sound (p : Ppu) (x : Nat) (h : p.sound) : (composite p x).sound := by
  unfold composite
  split
  · exact h
  · split <;> exact h

theorem pixelDot_sound (p : Ppu) (h : p.sound) : (pixelDot p).sound := by
  unfold pixelDot
  split
  · exact composite_sound p _ h
  · exact h

theorem scrollDot_sound (p : Ppu) (h : p.sound) : (scrollDot p).sound := by
  unfold scrollDot
  repeat' split
  all_goals exact h

theorem vblankDot_sound (p : Ppu) (h : p.sound) : (vblankDot p).sound := by
  unfold vblankDot
  split
  · exact armNmi_sound _ _ h
  split
  · exact h
  · exact h

theorem advanceDot_sound (p : Ppu) (h : p.sound) : (advanceDot p).sound := by
  obtain ⟨c1, c2, c3, c4, c5, c6⟩ := h
  unfold advanceDot
  split
  · next hc => exact ⟨by show p.cycle + 1 ≤ 340; omega, c2, c3, c4, c5, c6⟩
  split
  · next hs => exact ⟨Nat.zero_le _, by show p.scanLine + 1 ≤ 261; omega, c3, c4, c5, c6⟩
  · exact ⟨Nat.zero_le _, Nat.zero_le _, c3, Nat.zero_le _, fun _ hx => absurd hx List.not_mem_nil, c6⟩

theorem fetchAtPhase_quiet (s : State) : Quiet s (fetchAtPhase s) := by
  unfold fetchAtPhase
  split
  · exact ((ppuRead_quiet _ s).trans (enhanceTileIndex_quiet _ _)).setPpu _
  · exact ((ppuRead_quiet _ s).trans (enhanceTileAttributes_quiet _ _)).setPpu _
  · exact (ppuRead_quiet _ s).setPpu _
  · exact (ppuRead_quiet _ s).setPpu _
  · exact (Quiet.refl s).setPpu _
  · exact Quiet.refl s

theorem fetchAtPhase_inv (s : State) (h : s.Inv) : (fetchAtPhase s).Inv := by
  unfold fetchAtPhase
  split
  · exact enhanceTileIndex_inv _ _ (ppuRead_inv _ s h)
  · exact enhanceTileAttributes_inv _ _ (ppuRead_inv _ s h)
  · exact ppuRead_inv _ s h
  · exact ppuRead_inv _ s h
  · exact h
  · exact h

theorem fetchDot_quiet (s : State) : Quiet s (fetchDot s) := by
  unfold fetchDot
  split
  · exact fetchAtPhase_quiet s
  · exact Quiet.refl s

theorem fetchDot_inv (s : State) (h : s.Inv) : (fetchDot s).Inv := by
  unfold fetchDot
  split
  · exact fetchAtPhase_inv s h
  · exact h

theorem retainSprite_quiet (s : State) (i : Nat) : Quiet s (retainSprite s i) :=
  ((ppuRead_quiet _ s).trans (ppuRead_quiet _ _)).setPpu _

/-- R354: a retained sprite goes behind those retained before it, with its OAM index. -/
theorem retainSprite_index (s : State) (i : Nat) :
    (retainSprite s i).ppu.sprites.map Sprite.index = s.ppu.sprites.map Sprite.index ++ [i] := by
  have key : ∀ t : State, PictureKept s t → t.ppu.sprites = s.ppu.sprites := fun t ht => by rw [ht.ppu]
  have h := key _ ((ppuRead_picture (patternAddress (spriteTile s.ppu i (spriteRow s.ppu i)).1
    (spriteTile s.ppu i (spriteRow s.ppu i)).2.1 (spriteTile s.ppu i (spriteRow s.ppu i)).2.2 false) s).trans
    (ppuRead_picture (patternAddress (spriteTile s.ppu i (spriteRow s.ppu i)).1
    (spriteTile s.ppu i (spriteRow s.ppu i)).2.1 (spriteTile s.ppu i (spriteRow s.ppu i)).2.2 true) _))
  unfold retainSprite
  dsimp only
  rw [h, List.map_append, List.map_singleton]

theorem retainSprite_oam (s : State) (i : Nat) : (retainSprite s i).ppu.oam = s.ppu.oam :=
  ((ppuRead_picture _ s).trans (ppuRead_picture _ _)).oam

/-- The OAM indexes of the sprites after retaining the entries of a list, in order. -/
theorem foldl_retainSprite_index : ∀ (l : List Nat) (s : State),
    (l.foldl retainSprite s).ppu.sprites.map Sprite.index = s.ppu.sprites.map Sprite.index ++ l
  | [], s => by simp
  | i :: rest, s => by
    rw [List.foldl_cons, foldl_retainSprite_index rest, retainSprite_index]
    simp

/-- R353: the entries evaluation retains. -/
theorem evaluateSprites_index (s : State) :
    (evaluateSprites s).ppu.sprites.map Sprite.index = (qualifying s.ppu).take 8 := by
  unfold evaluateSprites
  dsimp only [setAccessingSprites]
  rw [foldl_retainSprite_index]
  rfl

theorem qualifying_lt (p : Ppu) : ∀ i ∈ qualifying p, i < 64 := fun _ hi =>
  List.mem_range.mp (List.mem_of_mem_filter hi)

/-- The invariant without what it says of the sprite buffer. -/
structure InvButSprites (s : State) : Prop where
  bus : s.bus.sound
  ppu : s.ppu.cycle ≤ 340 ∧ s.ppu.scanLine ≤ 261 ∧ s.ppu.nmiDelay ≤ Config.nmiDelay ∧ s.ppu.oam.wf ∧
    s.ppu.oam.within 256 ∧ s.ppu.memory.wf ∧ s.ppu.memory.within 0x4000

theorem InvButSprites.of_inv {s : State} (h : s.Inv) : InvButSprites s := by
  obtain ⟨hb, c1, c2, c3, _, _, c6⟩ := h
  exact ⟨hb, c1, c2, c3, c6⟩

theorem InvButSprites.setSprites {s : State} (h : InvButSprites s) (l : List Sprite) (v : Bool) (m : Mapper) :
    InvButSprites { s with ppu := { s.ppu with sprites := l, spriteOverflow := v }, mapper := m } := ⟨h.1, h.2⟩

theorem InvButSprites.to_inv {s : State} (h : InvButSprites s) (h1 : s.ppu.sprites.length ≤ 8)
    (h2 : ∀ sp ∈ s.ppu.sprites, sp.index < 64) : s.Inv := by
  obtain ⟨hb, c1, c2, c3, c6⟩ := h
  exact ⟨hb, c1, c2, c3, h1, h2, c6⟩

theorem InvButSprites.ppuRead {s : State} (a : Nat) (h : InvButSprites s) :
    InvButSprites (Machine.ppuRead a s).2 := by
  obtain ⟨hb, hp⟩ := ppuRead_wiring a s
  exact ⟨hb ▸ h.bus, hp ▸ h.ppu⟩

theorem retainSprite_butSprites (s : State) (i : Nat) (h : InvButSprites s) : InvButSprites (retainSprite s i) := by
  have h1 := (h.ppuRead (patternAddress (spriteTile s.ppu i (spriteRow s.ppu i)).1
    (spriteTile s.ppu i (spriteRow s.ppu i)).2.1 (spriteTile s.ppu i (spriteRow s.ppu i)).2.2 false)).ppuRead
    (patternAddress (spriteTile s.ppu i (spriteRow s.ppu i)).1
    (spriteTile s.ppu i (spriteRow s.ppu i)).2.1 (spriteTile s.ppu i (spriteRow s.ppu i)).2.2 true)
  exact ⟨h1.1, h1.2⟩

theorem evaluateSprites_quiet (s : State) : Quiet s (evaluateSprites s) := by
  have h := foldl_quiet retainSprite retainSprite_quiet ((qualifying s.ppu).take 8)
    (setAccessingSprites true { s with ppu := { s.ppu with
      sprites := [], spriteOverflow := s.ppu.spriteOverflow || decide (8 < (qualifying s.ppu).length) } })
  exact ⟨h.cpu, h.backing⟩

theorem evaluateSprites_inv (s : State) (h : s.Inv) : (evaluateSprites s).Inv := by
  have hx := evaluateSprites_index s
  refine InvButSprites.to_inv ?_ ?_ ?_
  · have h1 := foldl_keeps InvButSprites retainSprite retainSprite_butSprites ((qualifying s.ppu).take 8)
      (setAccessingSprites true { s with ppu := { s.ppu with
        sprites := [], spriteOverflow := s.ppu.spriteOverflow || decide (8 < (qualifying s.ppu).length) } })
      ((InvButSprites.of_inv h).setSprites _ _ _)
    exact ⟨h1.1, h1.2⟩
  · have := congrArg List.length hx
    rw [List.length_map, List.length_take] at this
    omega
  · intro sp hsp
    have hm : sp.index ∈ (qualifying s.ppu).take 8 := hx ▸ List.mem_map_of_mem hsp
    exact qualifying_lt _ _ (List.mem_of_mem_take hm)

theorem spriteDot_quiet (s : State) : Quiet s (spriteDot s) := by
  unfold spriteDot
  split
  · exact evaluateSprites_quiet s
  · exact Quiet.refl s

theorem spriteDot_inv (s : State) (h : s.Inv) : (spriteDot s).Inv := by
  unfold spriteDot
  split
  · exact evaluateSprites_inv s h
  · exact h

theorem State.Inv.setPpu {s : State} (h : s.Inv) {p : Ppu} (hp : p.sound) : State.Inv { s with ppu := p } := ⟨h.1, hp⟩

/-- R341: a tick changes neither the processor's registers nor the backing array. -/
theorem ppuTick_quiet (s : State) : Quiet s (ppuTick s) := by
  have h1 : Quiet s (mapperVideo (nmiCountdown s)) := (nmiCountdown_quiet s).trans (mapperVideo_quiet _)
  unfold ppuTick
  generalize mapperVideo (nmiCountdown s) = s1 at h1 ⊢
  have h2 : Quiet s (fetchDot { s1 with ppu := pixelDot s1.ppu }) := (h1.setPpu _).trans (fetchDot_quiet _)
  dsimp only
  generalize fetchDot { s1 with ppu := pixelDot s1.ppu } = s2 at h2 ⊢
  exact ((h2.setPpu _).trans (spriteDot_quiet _)).setPpu _

/-- R341: a tick keeps the invariant. -/
theorem ppuTick_inv (s : State) (h : s.Inv) : (ppuTick s).Inv := by
  have h1 : (mapperVideo (nmiCountdown s)).Inv := mapperVideo_inv _ (nmiCountdown_inv s h)
  unfold ppuTick
  generalize mapperVideo (nmiCountdown s) = s1 at h1 ⊢
  have h2 : (fetchDot { s1 with ppu := pixelDot s1.ppu }).Inv :=
    fetchDot_inv _ (h1.setPpu (pixelDot_sound _ h1.2))
  dsimp only
  generalize fetchDot { s1 with ppu := pixelDot s1.ppu } = s2 at h2 ⊢
  have h3 := spriteDot_inv _ (h2.setPpu (scrollDot_sound _ h2.2))
  exact h3.setPpu (advanceDot_sound _ (vblankDot_sound _ h3.2))

theorem ppuTicks_quiet : ∀ (k : Nat) (s : State), Quiet s (ppuTicks k s)
  | 0, s => Quiet.refl s
  | k + 1, s => (ppuTick_quiet s).trans (ppuTicks_quiet k _)

theorem ppuTicks_inv : ∀ (k : Nat) (s : State), s.Inv → (ppuTicks k s).Inv
  | 0, _, h => h
  | k + 1, s, h => ppuTicks_inv k _ (ppuTick_inv s h)

theorem applyAudioAction_quiet (s : State) (x : AudioAction) : Quiet s (applyAudioAction s x) := by
  cases x with
  | line l => exact applyApuLine_quiet s l
  | addStall n => exact ⟨rfl, rfl⟩
  | dmcFetch a n => exact ⟨memRead_cpu a s, memRead_backing a s⟩

theorem applyAudioAction_inv (s : State) (x : AudioAction) (h : s.Inv) : (applyAudioAction s x).Inv := by
  cases x with
  | line l => exact applyApuLine_inv s l h
  | addStall n => exact h
  | dmcFetch a n => exact memRead_inv a s h

theorem audioStep_quiet (s : State) : Quiet s (audioStep s) := by
  unfold audioStep
  split
  · exact Quiet.refl s
  · exact (foldl_quiet _ applyAudioAction_quiet _ _).after ⟨rfl, rfl⟩

theorem audioStep_inv (s : State) (h : s.Inv) : (audioStep s).Inv := by
  unfold audioStep
  split
  · exact h
  · exact foldl_keeps State.Inv _ applyAudioAction_inv _ _ h

theorem audioSteps_quiet : ∀ (k : Nat) (s : State), Quiet s (audioSteps k s)
  | 0, s => Quiet.refl s
  | k + 1, s => (audioStep_quiet s).trans (audioSteps_quiet k _)

theorem audioSteps_inv : ∀ (k : Nat) (s : State), s.Inv → (audioSteps k s).Inv
  | 0, _, h => h
  | k + 1, s, h => audioSteps_inv k _ (audioStep_inv s h)

/-- R320: catching up changes neither the processor's registers nor the backing array. -/
theorem catchUp_quiet (n : Nat) (s : State) : Quiet s (catchUp n s) :=
  (ppuTicks_quiet _ s).trans (audioSteps_quiet _ _)

theorem catchUp_inv (n : Nat) (s : State) (h : s.Inv) : (catchUp n s).Inv :=
  audioSteps_inv _ _ (ppuTicks_inv _ s h)

end Sys2Proof.Machine
end

