-- ==== Sys2Proof/Tests/Slice0.lean ====
section
/-! SUPPORT. The model's own tests. Expected values are those of `spec/95_test_vectors.md` (each test names its row) and
of `spec/opcode_table.json`; then a witness for the hypotheses of every statement of
`Sys2Proof/Certificates/Slice0/Obligations.lean` that has some. -/

namespace Sys2Proof.Tests

open Sys2Proof.Machine

/-- All flags clear. -/
def noFlags : Flags := ⟨false, false, false, false, false, false⟩

/-- The start state of the test vectors. -/
def start : Cpu := ⟨0x00, 0x00, 0x00, 0xFD, 0x8000, noFlags, 0⟩

/-- A machine on the vectors' flat bus. -/
def bench (c : Cpu) (m : Memory) : State := { State.reset with cpu := c, bus := ⟨m, [], []⟩ }

/-- What a vector's end state lists: `A`, `X`, `Y`, `SP`, `PackP(0)`, `PC`, cycles; and the memory. -/
def seen (s : State) : List Nat × Memory :=
  ([s.cpu.a.toNat, s.cpu.x.toNat, s.cpu.y.toNat, s.cpu.sp.toNat, (packP false s.cpu.p).toNat, s.cpu.pc.toNat,
    s.cpu.cycles], s.bus.backing)

/-- The state after a call. -/
def after : Result → Option State
  | .next t => some t
  | .fault _ => none
  | .refused _ => none

/-- One `ExecuteInstruction()` call from `c` and `m` ends in the registers `regs` and the memory `m'`. -/
abbrev becomes (c : Cpu) (m : Memory) (regs : List Nat) (m' : Memory) : Prop :=
  (after (executeInstruction (bench c m))).map seen = some (regs, m')

/-- The same, with the memory unchanged. -/
abbrev keeps (c : Cpu) (m : Memory) (regs : List Nat) : Prop := becomes c m regs m

/-! ### One instruction each (`95_test_vectors.md`, Part 2) -/

/-- L4: ZeroPageX wraps inside page 0: $F8+$10 -> $08, not $0108. -/
theorem test_L4_ldaZpX : keeps { start with x := 0x10 }
    [(0x0008, 0x42), (0x0108, 0x99), (0x8000, 0xB5), (0x8001, 0xF8)]
    [0x42, 0x10, 0x00, 0xFD, 0x20, 0x8002, 4] := by decide

/-- L5: AbsoluteX page cross: +1 cycle. -/
theorem test_L5_ldaAbsX : keeps { start with x := 0x01 }
    [(0x1300, 0x55), (0x8000, 0xBD), (0x8001, 0xFF), (0x8002, 0x12)]
    [0x55, 0x01, 0x00, 0xFD, 0x20, 0x8003, 5] := by decide

/-- L7: AbsoluteY wraps modulo 65536: $FFFF+$FF -> $00FE, counts as crossing. -/
theorem test_L7_ldaAbsY : keeps { start with y := 0xFF }
    [(0x00FE, 0x11), (0x8000, 0xB9), (0x8001, 0xFF), (0x8002, 0xFF)]
    [0x11, 0x00, 0xFF, 0xFD, 0x20, 0x8003, 5] := by decide

/-- L9: (zp,X) pointer at $FF: high byte from $00. -/
theorem test_L9_ldaIndX : keeps { start with x := 0x01 }
    [(0x0000, 0x12), (0x00FF, 0x34), (0x1234, 0x77), (0x8000, 0xA1), (0x8001, 0xFE)]
    [0x77, 0x01, 0x00, 0xFD, 0x20, 0x8002, 6] := by decide

/-- L11: (zp),Y pointer at $FF wraps to $00. -/
theorem test_L11_ldaIndY : keeps { start with y := 0x01 }
    [(0x0000, 0x03), (0x0301, 0x5A), (0x8000, 0xB1), (0x8001, 0xFF)]
    [0x5A, 0x00, 0x01, 0xFD, 0x20, 0x8002, 5] := by decide

/-- L12: LDX ZeroPageY wrap. -/
theorem test_L12_ldxZpY : keeps { start with y := 0x05 }
    [(0x0003, 0x80), (0x8000, 0xB6), (0x8001, 0xFE)]
    [0x00, 0x80, 0x05, 0xFD, 0xA0, 0x8002, 4] := by decide

/-- L13: LDY AbsoluteX cross, loads zero. -/
theorem test_L13_ldyAbsX : keeps { start with x := 0x02 }
    [(0x8000, 0xBC), (0x8001, 0xFF), (0x8002, 0x20)]
    [0x00, 0x02, 0x00, 0xFD, 0x22, 0x8003, 5] := by decide

/-- L14: STA changes no flag. -/
theorem test_L14_staAbs : becomes { start with a := 0x5A, p := { noFlags with z := true, n := true } }
    [(0x8000, 0x8D), (0x8002, 0x02)]
    [0x5A, 0x00, 0x00, 0xFD, 0xA2, 0x8003, 4]
    [(0x0200, 0x5A), (0x8000, 0x8D), (0x8002, 0x02)] := by decide

/-- L15: STA AbsoluteX: 5 cycles whether or not a page is crossed. -/
theorem test_L15_staAbsX : becomes { start with a := 0x5A, x := 0x01 }
    [(0x8000, 0x9D), (0x8001, 0xFF), (0x8002, 0x02)]
    [0x5A, 0x01, 0x00, 0xFD, 0x20, 0x8003, 5]
    [(0x0300, 0x5A), (0x8000, 0x9D), (0x8001, 0xFF), (0x8002, 0x02)] := by decide

/-- L16: STA (zp),Y: 6 cycles always. -/
theorem test_L16_staIndY : becomes { start with a := 0xC3, y := 0x01 }
    [(0x0040, 0xFF), (0x0041, 0x02), (0x8000, 0x91), (0x8001, 0x40)]
    [0xC3, 0x00, 0x01, 0xFD, 0x20, 0x8002, 6]
    [(0x0040, 0xFF), (0x0041, 0x02), (0x0300, 0xC3), (0x8000, 0x91), (0x8001, 0x40)] := by decide

/-- L17: STX ZeroPageY wrap to $01. -/
theorem test_L17_stxZpY : becomes { start with x := 0x77, y := 0x03 }
    [(0x8000, 0x96), (0x8001, 0xFE)]
    [0x00, 0x77, 0x03, 0xFD, 0x20, 0x8002, 4]
    [(0x0001, 0x77), (0x8000, 0x96), (0x8001, 0xFE)] := by decide

/-- L18: STY ZeroPageX. -/
theorem test_L18_styZpX : becomes { start with x := 0x01, y := 0x88 }
    [(0x8000, 0x94), (0x8001, 0x10)]
    [0x00, 0x01, 0x88, 0xFD, 0x20, 0x8002, 4]
    [(0x0011, 0x88), (0x8000, 0x94), (0x8001, 0x10)] := by decide

/-- T1: TAX sets N. -/
theorem test_T1_tax : keeps { start with a := 0x80 }
    [(0x8000, 0xAA)]
    [0x80, 0x80, 0x00, 0xFD, 0xA0, 0x8001, 2] := by decide

/-- T2: TAY zero sets Z. -/
theorem test_T2_tay : keeps { start with y := 0x55 }
    [(0x8000, 0xA8)]
    [0x00, 0x00, 0x00, 0xFD, 0x22, 0x8001, 2] := by decide

/-- T3: TXA clears N. -/
theorem test_T3_txa : keeps { start with a := 0xFF, x := 0x7F, p := { noFlags with n := true } }
    [(0x8000, 0x8A)]
    [0x7F, 0x7F, 0x00, 0xFD, 0x20, 0x8001, 2] := by decide

/-- T4: TYA zero. -/
theorem test_T4_tya : keeps { start with a := 0x01 }
    [(0x8000, 0x98)]
    [0x00, 0x00, 0x00, 0xFD, 0x22, 0x8001, 2] := by decide

/-- T5: TSX sets N from $FD. -/
theorem test_T5_tsx : keeps start
    [(0x8000, 0xBA)]
    [0x00, 0xFD, 0x00, 0xFD, 0xA0, 0x8001, 2] := by decide

/-- T6: TXS changes no flag, even for zero. -/
theorem test_T6_txs : keeps { start with p := { noFlags with n := true } }
    [(0x8000, 0x9A)]
    [0x00, 0x00, 0x00, 0x00, 0xA0, 0x8001, 2] := by decide

/-- T7: PHA at SP=$00 writes $0100 and wraps SP to $FF. -/
theorem test_T7_pha : becomes { start with a := 0x42, sp := 0x00 }
    [(0x8000, 0x48)]
    [0x42, 0x00, 0x00, 0xFF, 0x20, 0x8001, 3]
    [(0x0100, 0x42), (0x8000, 0x48)] := by decide

/-- T8: PLA at SP=$FF wraps to $00, reads $0100. -/
theorem test_T8_pla : keeps { start with sp := 0xFF }
    [(0x0100, 0x80), (0x8000, 0x68)]
    [0x80, 0x00, 0x00, 0x00, 0xA0, 0x8001, 4] := by decide

/-- T9: PHP pushes $FF: bits 4, 5 set. -/
theorem test_T9_php : becomes { start with p := { noFlags with c := true, z := true, i := true, d := true, v := true, n := true } }
    [(0x8000, 0x08)]
    [0x00, 0x00, 0x00, 0xFC, 0xEF, 0x8001, 3]
    [(0x01FD, 0xFF), (0x8000, 0x08)] := by decide

/-- T12: PLP $30: all flags cleared (P prints $20). -/
theorem test_T12_plp : keeps { start with sp := 0xFC, p := { noFlags with c := true, i := true, n := true } }
    [(0x01FD, 0x30), (0x8000, 0x28)]
    [0x00, 0x00, 0x00, 0xFD, 0x20, 0x8001, 4] := by decide

/-- A2: $80+$80: C, V, Z. -/
theorem test_A2_adcImm : keeps { start with a := 0x80 }
    [(0x8000, 0x69), (0x8001, 0x80)]
    [0x00, 0x00, 0x00, 0xFD, 0x63, 0x8002, 2] := by decide

/-- A4: decimal flag ignored: result $0A, not $10. -/
theorem test_A4_adcImm : keeps { start with a := 0x09, p := { noFlags with d := true } }
    [(0x8000, 0x69), (0x8001, 0x01)]
    [0x0A, 0x00, 0x00, 0xFD, 0x28, 0x8002, 2] := by decide

/-- A6: SBC $50-$B0 = $A0: overflow. -/
theorem test_A6_sbcImm : keeps { start with a := 0x50, p := { noFlags with c := true } }
    [(0x8000, 0xE9), (0x8001, 0xB0)]
    [0xA0, 0x00, 0x00, 0xFD, 0xE0, 0x8002, 2] := by decide

/-- A7: SBC with borrow in: $00-$00-1 = $FF, C=0. -/
theorem test_A7_sbcImm : keeps start
    [(0x8000, 0xE9)]
    [0xFF, 0x00, 0x00, 0xFD, 0xA0, 0x8002, 2] := by decide

/-- A11: CMP less: C=0, N from $FF. -/
theorem test_A11_cmpImm : keeps { start with a := 0x40 }
    [(0x8000, 0xC9), (0x8001, 0x41)]
    [0x40, 0x00, 0x00, 0xFD, 0xA0, 0x8002, 2] := by decide

/-- A12: CMP unsigned greater; V untouched. -/
theorem test_A12_cmpImm : keeps { start with a := 0x80, p := { noFlags with v := true } }
    [(0x8000, 0xC9), (0x8001, 0x7F)]
    [0x80, 0x00, 0x00, 0xFD, 0x61, 0x8002, 2] := by decide

/-- A13: CPX $00 vs $FF: result $01, C=0. -/
theorem test_A13_cpxImm : keeps start
    [(0x8000, 0xE0), (0x8001, 0xFF)]
    [0x00, 0x00, 0x00, 0xFD, 0x20, 0x8002, 2] := by decide

/-- A14: CPY absolute equal. -/
theorem test_A14_cpyAbs : keeps { start with y := 0xFF }
    [(0x0300, 0xFF), (0x8000, 0xCC), (0x8002, 0x03)]
    [0x00, 0x00, 0xFF, 0xFD, 0x23, 0x8003, 4] := by decide

/-- A15: INC wraps to $00, Z=1; C untouched. -/
theorem test_A15_incZp : becomes start
    [(0x0010, 0xFF), (0x8000, 0xE6), (0x8001, 0x10)]
    [0x00, 0x00, 0x00, 0xFD, 0x22, 0x8002, 5]
    [(0x8000, 0xE6), (0x8001, 0x10)] := by decide

/-- A16: INC AbsoluteX: 7 cycles regardless of crossing; one read one write. -/
theorem test_A16_incAbsX : becomes { start with x := 0x01, p := { noFlags with c := true } }
    [(0x0300, 0x7F), (0x8000, 0xFE), (0x8001, 0xFF), (0x8002, 0x02)]
    [0x00, 0x01, 0x00, 0xFD, 0xA1, 0x8003, 7]
    [(0x0300, 0x80), (0x8000, 0xFE), (0x8001, 0xFF), (0x8002, 0x02)] := by decide

/-- A17: DEC wraps to $FF. -/
theorem test_A17_decZp : becomes start
    [(0x8000, 0xC6), (0x8001, 0x10)]
    [0x00, 0x00, 0x00, 0xFD, 0xA0, 0x8002, 5]
    [(0x0010, 0xFF), (0x8000, 0xC6), (0x8001, 0x10)] := by decide

/-- A18: INX wrap. -/
theorem test_A18_inx : keeps { start with x := 0xFF }
    [(0x8000, 0xE8)]
    [0x00, 0x00, 0x00, 0xFD, 0x22, 0x8001, 2] := by decide

/-- A19: INY to $80. -/
theorem test_A19_iny : keeps { start with y := 0x7F }
    [(0x8000, 0xC8)]
    [0x00, 0x00, 0x80, 0xFD, 0xA0, 0x8001, 2] := by decide

/-- A20: DEX wrap. -/
theorem test_A20_dex : keeps start
    [(0x8000, 0xCA)]
    [0x00, 0xFF, 0x00, 0xFD, 0xA0, 0x8001, 2] := by decide

/-- A21: DEY to zero. -/
theorem test_A21_dey : keeps { start with y := 0x01 }
    [(0x8000, 0x88)]
    [0x00, 0x00, 0x00, 0xFD, 0x22, 0x8001, 2] := by decide

/-- B1: AND to zero. -/
theorem test_B1_andImm : keeps { start with a := 0xF0 }
    [(0x8000, 0x29), (0x8001, 0x0F)]
    [0x00, 0x00, 0x00, 0xFD, 0x22, 0x8002, 2] := by decide

/-- B2: ORA to $FF. -/
theorem test_B2_oraImm : keeps { start with a := 0xF0 }
    [(0x8000, 0x09), (0x8001, 0x0F)]
    [0xFF, 0x00, 0x00, 0xFD, 0xA0, 0x8002, 2] := by decide

/-- B4: EOR AbsoluteX cross. -/
theorem test_B4_eorAbsX : keeps { start with a := 0x55, x := 0x01 }
    [(0x0300, 0xAA), (0x8000, 0x5D), (0x8001, 0xFF), (0x8002, 0x02)]
    [0xFF, 0x01, 0x00, 0xFD, 0xA0, 0x8003, 5] := by decide

/-- B5: BIT: N,V from memory bits 7,6; Z from A and M = 0; A unchanged. -/
theorem test_B5_bitZp : keeps { start with a := 0x01 }
    [(0x0010, 0xC0), (0x8000, 0x24), (0x8001, 0x10)]
    [0x01, 0x00, 0x00, 0xFD, 0xE2, 0x8002, 3] := by decide

/-- B7: ASL A. -/
theorem test_B7_aslAcc : keeps { start with a := 0x81 }
    [(0x8000, 0x0A)]
    [0x02, 0x00, 0x00, 0xFD, 0x21, 0x8001, 2] := by decide

/-- B8: ASL memory ignores carry in. -/
theorem test_B8_aslZp : becomes { start with p := { noFlags with c := true } }
    [(0x0010, 0x40), (0x8000, 0x06), (0x8001, 0x10)]
    [0x00, 0x00, 0x00, 0xFD, 0xA0, 0x8002, 5]
    [(0x0010, 0x80), (0x8000, 0x06), (0x8001, 0x10)] := by decide

/-- B9: LSR A to zero, C=1. -/
theorem test_B9_lsrAcc : keeps { start with a := 0x01 }
    [(0x8000, 0x4A)]
    [0x00, 0x00, 0x00, 0xFD, 0x23, 0x8001, 2] := by decide

/-- B10: LSR AbsoluteX 7 cycles. -/
theorem test_B10_lsrAbsX : becomes { start with x := 0x01 }
    [(0x0300, 0xFE), (0x8000, 0x5E), (0x8001, 0xFF), (0x8002, 0x02)]
    [0x00, 0x01, 0x00, 0xFD, 0x20, 0x8003, 7]
    [(0x0300, 0x7F), (0x8000, 0x5E), (0x8001, 0xFF), (0x8002, 0x02)] := by decide

/-- B11: ROL A: carry in to bit 0, bit 7 out. -/
theorem test_B11_rolAcc : keeps { start with a := 0x80, p := { noFlags with c := true } }
    [(0x8000, 0x2A)]
    [0x01, 0x00, 0x00, 0xFD, 0x21, 0x8001, 2] := by decide

/-- B12: ROL memory to zero. -/
theorem test_B12_rolZp : becomes start
    [(0x0010, 0x80), (0x8000, 0x26), (0x8001, 0x10)]
    [0x00, 0x00, 0x00, 0xFD, 0x23, 0x8002, 5]
    [(0x8000, 0x26), (0x8001, 0x10)] := by decide

/-- B13: ROR A: carry into bit 7. -/
theorem test_B13_rorAcc : keeps { start with a := 0x01, p := { noFlags with c := true } }
    [(0x8000, 0x6A)]
    [0x80, 0x00, 0x00, 0xFD, 0xA1, 0x8001, 2] := by decide

/-- B14: ROR memory to zero, C=1. -/
theorem test_B14_rorAbs : becomes start
    [(0x0300, 0x01), (0x8000, 0x6E), (0x8002, 0x03)]
    [0x00, 0x00, 0x00, 0xFD, 0x23, 0x8003, 6]
    [(0x8000, 0x6E), (0x8002, 0x03)] := by decide

/-- C2: JMP indirect at page end: high byte from $1200, not $1300. -/
theorem test_C2_jmpInd : keeps start
    [(0x1200, 0x56), (0x12FF, 0x34), (0x1300, 0x99), (0x8000, 0x6C), (0x8001, 0xFF), (0x8002, 0x12)]
    [0x00, 0x00, 0x00, 0xFD, 0x20, 0x5634, 5] := by decide

/-- C6: JSR with SP=$00: writes $0100 then $01FF (stack wrap). -/
theorem test_C6_jsrAbs : becomes { start with sp := 0x00 }
    [(0x8000, 0x20), (0x8002, 0x90)]
    [0x00, 0x00, 0x00, 0xFE, 0x20, 0x9000, 6]
    [(0x0100, 0x80), (0x01FF, 0x02), (0x8000, 0x20), (0x8002, 0x90)] := by decide

/-- C7: RTS across the stack wrap: $FFFF+1 -> PC=$0000. -/
theorem test_C7_rts : keeps { start with sp := 0xFE }
    [(0x0100, 0xFF), (0x01FF, 0xFF), (0x8000, 0x60)]
    [0x00, 0x00, 0x00, 0x00, 0x20, 0x0000, 6] := by decide

/-- C8: BEQ not taken: 2 cycles. -/
theorem test_C8_beq : keeps start
    [(0x8000, 0xF0), (0x8001, 0x10)]
    [0x00, 0x00, 0x00, 0xFD, 0x20, 0x8002, 2] := by decide

/-- C9: BEQ taken same page: 3 cycles. -/
theorem test_C9_beq : keeps { start with p := { noFlags with z := true } }
    [(0x8000, 0xF0), (0x8001, 0x10)]
    [0x00, 0x00, 0x00, 0xFD, 0x22, 0x8012, 3] := by decide

/-- C10: BNE taken backward, $8100 -> $80FB crosses a page: 4 cycles. -/
theorem test_C10_bne : keeps { start with pc := 0x80FE }
    [(0x80FE, 0xD0), (0x80FF, 0xFB)]
    [0x00, 0x00, 0x00, 0xFD, 0x20, 0x80FB, 4] := by decide

/-- C11: BCC forward +127 across a page: 4 cycles. -/
theorem test_C11_bcc : keeps { start with pc := 0x8080 }
    [(0x8080, 0x90), (0x8081, 0x7F)]
    [0x00, 0x00, 0x00, 0xFD, 0x20, 0x8101, 4] := by decide

/-- C12: BCS offset -128: $8002-128 = $7F82: 4 cycles. -/
theorem test_C12_bcs : keeps { start with p := { noFlags with c := true } }
    [(0x8000, 0xB0), (0x8001, 0x80)]
    [0x00, 0x00, 0x00, 0xFD, 0x21, 0x7F82, 4] := by decide

/-- C13: BMI to itself (offset -2): 3 cycles. -/
theorem test_C13_bmi : keeps { start with p := { noFlags with n := true } }
    [(0x8000, 0x30), (0x8001, 0xFE)]
    [0x00, 0x00, 0x00, 0xFD, 0xA0, 0x8000, 3] := by decide

/-- C14: BPL not taken. -/
theorem test_C14_bpl : keeps { start with p := { noFlags with n := true } }
    [(0x8000, 0x10), (0x8001, 0x05)]
    [0x00, 0x00, 0x00, 0xFD, 0xA0, 0x8002, 2] := by decide

/-- C15: BVC taken with offset 0: 3 cycles, PC = next instruction. -/
theorem test_C15_bvc : keeps start
    [(0x8000, 0x50)]
    [0x00, 0x00, 0x00, 0xFD, 0x20, 0x8002, 3] := by decide

/-- C16: BVS not taken. -/
theorem test_C16_bvs : keeps start
    [(0x8000, 0x70), (0x8001, 0x05)]
    [0x00, 0x00, 0x00, 0xFD, 0x20, 0x8002, 2] := by decide

/-- C18: BRK: pushes $80,$02,$33; the padding byte is not read. -/
theorem test_C18_brk : becomes { start with p := { noFlags with c := true, z := true } }
    [(0x8001, 0xFF), (0xFFFE, 0x34), (0xFFFF, 0x12)]
    [0x00, 0x00, 0x00, 0xFA, 0x27, 0x1234, 7]
    [(0x01FB, 0x33), (0x01FC, 0x02), (0x01FD, 0x80), (0x8001, 0xFF), (0xFFFE, 0x34), (0xFFFF, 0x12)] := by decide

/-- C20: RTI: flags from $B1 (N, C; bit 4, 5 ignored; I cleared), PC=$8002 with no +1. -/
theorem test_C20_rti : keeps { start with sp := 0xFA, p := { noFlags with i := true } }
    [(0x01FB, 0xB1), (0x01FC, 0x02), (0x01FD, 0x80), (0x8000, 0x40)]
    [0x00, 0x00, 0x00, 0xFD, 0xA1, 0x8002, 6] := by decide

/-- F1: CLC. -/
theorem test_F1_clc : keeps { start with p := { noFlags with c := true } }
    [(0x8000, 0x18)]
    [0x00, 0x00, 0x00, 0xFD, 0x20, 0x8001, 2] := by decide

/-- F2: SEC. -/
theorem test_F2_sec : keeps start
    [(0x8000, 0x38)]
    [0x00, 0x00, 0x00, 0xFD, 0x21, 0x8001, 2] := by decide

/-- F3: CLI. -/
theorem test_F3_cli : keeps { start with p := { noFlags with i := true } }
    [(0x8000, 0x58)]
    [0x00, 0x00, 0x00, 0xFD, 0x20, 0x8001, 2] := by decide

/-- F4: SEI. -/
theorem test_F4_sei : keeps start
    [(0x8000, 0x78)]
    [0x00, 0x00, 0x00, 0xFD, 0x24, 0x8001, 2] := by decide

/-- F5: CLV. -/
theorem test_F5_clv : keeps { start with p := { noFlags with v := true } }
    [(0x8000, 0xB8)]
    [0x00, 0x00, 0x00, 0xFD, 0x20, 0x8001, 2] := by decide

/-- F6: CLD. -/
theorem test_F6_cld : keeps { start with p := { noFlags with d := true } }
    [(0x8000, 0xD8)]
    [0x00, 0x00, 0x00, 0xFD, 0x20, 0x8001, 2] := by decide

/-- F7: SED. -/
theorem test_F7_sed : keeps start
    [(0x8000, 0xF8)]
    [0x00, 0x00, 0x00, 0xFD, 0x28, 0x8001, 2] := by decide

/-- F8: NOP. -/
theorem test_F8_nop : keeps { start with a := 0x12, p := { noFlags with n := true } }
    [(0x8000, 0xEA)]
    [0x12, 0x00, 0x00, 0xFD, 0xA0, 0x8001, 2] := by decide

/-- F12: $03: pointer bytes read, $0200 not accessed, nothing changed, 8 cycles. -/
theorem test_F12_undoc03 : keeps { start with a := 0x11, x := 0x04 }
    [(0x0025, 0x02), (0x0200, 0x81), (0x8000, 0x03), (0x8001, 0x20)]
    [0x11, 0x04, 0x00, 0xFD, 0x20, 0x8002, 8] := by decide

/-- F13: $1C AbsoluteX with page cross: 5 cycles. -/
theorem test_F13_undoc1C : keeps { start with x := 0x01 }
    [(0x8000, 0x1C), (0x8001, 0xFF), (0x8002, 0x12)]
    [0x00, 0x01, 0x00, 0xFD, 0x20, 0x8003, 5] := by decide

/-- F14: $8F (SAX abs on the physical part): no write here. -/
theorem test_F14_undoc8F : keeps { start with a := 0xFF, x := 0xFF }
    [(0x8000, 0x8F), (0x8002, 0x03)]
    [0xFF, 0xFF, 0x00, 0xFD, 0x20, 0x8003, 4] := by decide

/-- F15: JAM opcode does not halt. -/
theorem test_F15_undoc02 : keeps start
    [(0x8000, 0x02)]
    [0x00, 0x00, 0x00, 0xFD, 0x20, 0x8001, 2] := by decide

/-! ### Interrupts, stalls, reset, OAM DMA (`95_test_vectors.md`, Part 3) -/

/-- The memory of Part 3. -/
def vectors : Memory :=
  [(0x8000, 0xEA), (0x8001, 0xEA), (0x9000, 0xE8), (0xA000, 0xC8), (0xFFFB, 0xA0), (0xFFFD, 0x80), (0xFFFF, 0x90)]

/-- The bytes an entry at `$8000` pushes, in front of Part 3's memory. -/
def pushed : Memory := [(0x01FB, 0x20), (0x01FD, 0x80)] ++ vectors

/-- One call in the memory `m` with the pending events `l`. -/
def calls (l : Lines) (c : Cpu) (m : Memory) : Option ((List Nat × Memory) × Lines) :=
  (after (executeInstruction { bench c m with lines := l })).map fun t => (seen t, t.lines)

/-- I1: NMI entry 7 cycles and `INY` 2. -/
theorem test_I1_nmi : calls ⟨0, true, ⟨false, false, false⟩⟩ start vectors =
    some (([0x00, 0x00, 0x01, 0xFA, 0x24, 0xA001, 9], pushed), ⟨0, false, ⟨false, false, false⟩⟩) := by decide

/-- I2: IRQ entry and `INX`; the sources stay. -/
theorem test_I2_irq : calls ⟨0, false, ⟨true, false, false⟩⟩ start vectors =
    some (([0x00, 0x01, 0x00, 0xFA, 0x24, 0x9001, 9], pushed), ⟨0, false, ⟨true, false, false⟩⟩) := by decide

/-- I3: the IRQ is masked by `I`. -/
theorem test_I3_irq_masked :
    calls ⟨0, false, ⟨true, false, false⟩⟩ { start with p := { noFlags with i := true } } vectors =
    some (([0x00, 0x00, 0x00, 0xFD, 0x24, 0x8001, 2], vectors), ⟨0, false, ⟨true, false, false⟩⟩) := by decide

/-- I4: NMI before IRQ. -/
theorem test_I4_nmi_first : calls ⟨0, true, ⟨false, false, true⟩⟩ start vectors =
    some (([0x00, 0x00, 0x01, 0xFA, 0x24, 0xA001, 9], pushed), ⟨0, false, ⟨false, false, true⟩⟩) := by decide

/-- I6: a stall unit; the NMI waits. -/
theorem test_I6_stall : calls ⟨2, true, ⟨false, false, false⟩⟩ start vectors =
    some (([0x00, 0x00, 0x00, 0xFD, 0x20, 0x8000, 1], vectors), ⟨1, true, ⟨false, false, false⟩⟩) := by decide

/-- I11: an IRQ is entered before the `SEI` at `PC` is fetched. -/
theorem test_I11_irq_before_sei : calls ⟨0, false, ⟨false, true, false⟩⟩ start
    [(0x8000, 0x78), (0x9000, 0xE8), (0xFFFF, 0x90)] =
    some (([0x00, 0x01, 0x00, 0xFA, 0x24, 0x9001, 9],
      [(0x01FB, 0x20), (0x01FD, 0x80), (0x8000, 0x78), (0x9000, 0xE8), (0xFFFF, 0x90)]),
      ⟨0, false, ⟨false, true, false⟩⟩) := by decide

/-- Z1: `Reset()` on a running machine. -/
theorem test_Z1_reset :
    let s : State := { bench ⟨0x12, 0x34, 0x56, 0x10, 0x4321, ⟨true, false, false, true, false, true⟩, 1234⟩ vectors with
      lines := ⟨7, true, ⟨false, false, true⟩⟩ }
    (seen (resetProcessor s)).1 = [0x12, 0x34, 0x56, 0xFD, 0x24, 0x8000, 0] ∧
      (resetProcessor s).lines = ⟨0, false, ⟨false, false, true⟩⟩ := by decide

/-- Z2: power-on with a vector. -/
theorem test_Z2_reset : (seen (resetProcessor { State.reset with bus := ⟨[(0xFFFC, 0xCD), (0xFFFD, 0xAB)], [], []⟩ })).1 =
    [0x00, 0x00, 0x00, 0xFD, 0x24, 0xABCD, 0] := by decide

/-- M1, M2: what a write to `$4014` adds to the stall, by the parity of `cycles`. -/
theorem test_M1_M2_oam_dma : (memWrite 0x4014 0x02 State.reset).lines.stall = 513 ∧
    (memWrite 0x4014 0x02 { State.reset with cpu := { start with cycles := 5 } }).lines.stall = 514 := by decide +kernel

/-! ### The bus, the picture processor, the assembler (`95_test_vectors.md`, Part 1) -/

/-- S12: mirroring of the internal RAM on the console's own wiring. -/
theorem test_S12_mirroring :
    (memRead 0x1800 (memWrite 0x0000 0x11 State.reset)).1 = 0x11 ∧
    (memRead 0x0000 (memWrite 0x0800 0xAB State.reset)).1 = 0xAB ∧
    (memRead 0x1FFF (memWrite 0x0FFF 0xCD State.reset)).1 = 0xCD ∧
    (memWrite 0x1234 0x5A State.reset).bus.backing = [(0x0234, 0x5A)] ∧
    (targetOf State.reset.bus.readSlots 0x3FFA) = (0x2002, .ppuPort) := by decide +kernel

/-- S12: a range that is no multiple of the segment. -/
theorem test_S12_malformed :
    configureAddressMirroring 0x0000 0x0800 0x2100 State.reset = .fault .malformedMirroring :=
  rfl

/-- What `Run`'s loop returns: the cycles consumed. -/
def consumed : Host.Outcome (State × Nat) Fault Refusal → Option Nat
  | .next (_, used) => some used
  | .fault _ => none
  | .refused _ => none

/-- S15: a budget of 10.5 cycles takes 6 `NOP`s (12 cycles) or 2 `INC $1234,X` (14). -/
theorem test_S15_run :
    consumed (runLoop 105 10 105 0 (bench start
      [(0x8000, 0xEA), (0x8001, 0xEA), (0x8002, 0xEA), (0x8003, 0xEA), (0x8004, 0xEA), (0x8005, 0xEA)])) = some 12 ∧
    consumed (runLoop 105 10 105 0 (bench start
      [(0x8000, 0xFE), (0x8001, 0x34), (0x8002, 0x12), (0x8003, 0xFE), (0x8004, 0x34), (0x8005, 0x12)])) = some 14 := by
  decide +kernel

/-- S13: the write toggle and the scroll latch. -/
theorem test_S13_write_toggle :
    let s1 := memWrite 0x2005 0x7D State.reset
    let s2 := memWrite 0x2005 0x5E s1
    let s3 := memWrite 0x2006 0x21 (memRead 0x2002 s2).2
    s1.ppu.w = true ∧ field 0 5 s1.ppu.t = 0x0F ∧ s1.ppu.fineX = 5 ∧ s2.ppu.w = false ∧ field 12 3 s2.ppu.t = 6 ∧
      field 5 5 s2.ppu.t = 0x0B ∧ s3.ppu.w = true ∧ field 8 6 s3.ppu.t = 0x21 ∧ field 14 1 s3.ppu.t = 0 ∧
      (memRead 0x2002 s3).2.ppu.w = false := by decide +kernel

/-- A picture processor on scanline `$20` whose OAM has the entries of `at` on that line and all others at `$F0`. -/
def spriteLine (at_ : List Nat) : State :=
  { State.reset with ppu := { Ppu.initial with
      scanLine := 0x20
      oam := (List.range 64).map fun i => (4 * i, if i ∈ at_ then 0x20 else 0xF0) } }

/-- S14: nine qualifying sprites, eight, and three. -/
theorem test_S14_sprite_evaluation :
    qualifying (spriteLine [0, 1, 2, 3, 4, 5, 6, 7, 8]).ppu = [0, 1, 2, 3, 4, 5, 6, 7, 8] ∧
    (evaluateSprites (spriteLine [0, 1, 2, 3, 4, 5, 6, 7, 8])).ppu.spriteOverflow = true ∧
    (evaluateSprites (spriteLine [0, 1, 2, 3, 4, 5, 6, 7])).ppu.spriteOverflow = false ∧
    (evaluateSprites (spriteLine [3, 10, 63])).ppu.spriteOverflow = false ∧
    (evaluateSprites (spriteLine [3, 10, 63])).ppu.sprites.map Sprite.index = [3, 10, 63] := by decide +kernel

/-- S11: branch offsets, accepted and out of range. -/
theorem test_S11_branch_offsets :
    branchOffset 0x8000 0x8002 = .ok 0x00 ∧ branchOffset 0x8000 0x8000 = .ok 0xFE ∧
    branchOffset 0x8010 0x8000 = .ok 0xEE ∧ branchOffset 0x8000 0x8081 = .ok 0x7F ∧
    branchOffset 0x8000 0x7F82 = .ok 0x80 ∧ branchOffset 0x8000 0x8082 = .error .branchOutOfRange ∧
    branchOffset 0x8000 0x7F81 = .error .branchOutOfRange ∧ branchOffset 0x80FE 0x80FB = .ok 0xFB ∧
    branchOffset 0xFFFE 0x0005 = .ok 0x05 :=
  ⟨rfl, rfl, rfl, rfl, rfl, rfl, rfl, rfl, rfl⟩

/-! ### Well-formedness (R116, R118) -/

/-- `STA` has no immediate mode. -/
theorem test_illformed_mode : (SourceInstr.mk .sta (.immediate 0x10)).wellFormed = false ∧
    assemble ⟨.sta, .immediate 0x10⟩ = .error .unsupportedMode :=
  ⟨rfl, rfl⟩

/-- An undocumented opcode has no spelling. -/
theorem test_illformed_undocumented : (SourceInstr.mk .undoc (.zeroPage 0x10)).wellFormed = false ∧
    assemble ⟨.undoc, .zeroPage 0x10⟩ = .error .unsupportedMode :=
  ⟨rfl, rfl⟩

/-- `JMP` and `LDX` in modes they do not have, and in one they have (R118). -/
theorem test_wellformed_modes : (SourceInstr.mk .jmp (.absoluteX 0x1234)).wellFormed = false ∧
    (SourceInstr.mk .ldx (.zeroPageX 0x10)).wellFormed = false ∧
    assemble ⟨.ldx, .zeroPageY 0x10⟩ = .ok [0xB6, 0x10] :=
  ⟨rfl, rfl, rfl⟩

/-! ### Decoding (`opcode_table.json`, `30_encoding.md` R105 to R107) -/

/-- The instructions of the 16 opcodes from `base` on, each followed by the bytes `$34 $12`. -/
def matrixRow (base : Nat) : List Instr :=
  (List.range 16).filterMap fun lo =>
    match decode [BitVec.ofNat 8 (base + lo), 0x34, 0x12] with
    | .ok (i, _) => some i
    | .error _ => none

theorem test_decode_row_0 : matrixRow 0x00 =
    [.brk, .oraIndX 0x34, .undoc02, .undoc03 0x34,
     .undoc04 0x34, .oraZp 0x34, .aslZp 0x34, .undoc07 0x34,
     .php, .oraImm 0x34, .aslAcc, .undoc0B 0x34,
     .undoc0C 0x1234, .oraAbs 0x1234, .aslAbs 0x1234, .undoc0F 0x1234] := by decide

theorem test_decode_row_1 : matrixRow 0x10 =
    [.bpl 0x34, .oraIndY 0x34, .undoc12, .undoc13 0x34,
     .undoc14 0x34, .oraZpX 0x34, .aslZpX 0x34, .undoc17 0x34,
     .clc, .oraAbsY 0x1234, .undoc1A, .undoc1B 0x1234,
     .undoc1C 0x1234, .oraAbsX 0x1234, .aslAbsX 0x1234, .undoc1F 0x1234] := by decide

theorem test_decode_row_2 : matrixRow 0x20 =
    [.jsrAbs 0x1234, .andIndX 0x34, .undoc22, .undoc23 0x34,
     .bitZp 0x34, .andZp 0x34, .rolZp 0x34, .undoc27 0x34,
     .plp, .andImm 0x34, .rolAcc, .undoc2B 0x34,
     .bitAbs 0x1234, .andAbs 0x1234, .rolAbs 0x1234, .undoc2F 0x1234] := by decide

theorem test_decode_row_3 : matrixRow 0x30 =
    [.bmi 0x34, .andIndY 0x34, .undoc32, .undoc33 0x34,
     .undoc34 0x34, .andZpX 0x34, .rolZpX 0x34, .undoc37 0x34,
     .sec, .andAbsY 0x1234, .undoc3A, .undoc3B 0x1234,
     .undoc3C 0x1234, .andAbsX 0x1234, .rolAbsX 0x1234, .undoc3F 0x1234] := by decide

theorem test_decode_row_4 : matrixRow 0x40 =
    [.rti, .eorIndX 0x34, .undoc42, .undoc43 0x34,
     .undoc44 0x34, .eorZp 0x34, .lsrZp 0x34, .undoc47 0x34,
     .pha, .eorImm 0x34, .lsrAcc, .undoc4B 0x34,
     .jmpAbs 0x1234, .eorAbs 0x1234, .lsrAbs 0x1234, .undoc4F 0x1234] := by decide

theorem test_decode_row_5 : matrixRow 0x50 =
    [.bvc 0x34, .eorIndY 0x34, .undoc52, .undoc53 0x34,
     .undoc54 0x34, .eorZpX 0x34, .lsrZpX 0x34, .undoc57 0x34,
     .cli, .eorAbsY 0x1234, .undoc5A, .undoc5B 0x1234,
     .undoc5C 0x1234, .eorAbsX 0x1234, .lsrAbsX 0x1234, .undoc5F 0x1234] := by decide

theorem test_decode_row_6 : matrixRow 0x60 =
    [.rts, .adcIndX 0x34, .undoc62, .undoc63 0x34,
     .undoc64 0x34, .adcZp 0x34, .rorZp 0x34, .undoc67 0x34,
     .pla, .adcImm 0x34, .rorAcc, .undoc6B 0x34,
     .jmpInd 0x1234, .adcAbs 0x1234, .rorAbs 0x1234, .undoc6F 0x1234] := by decide

theorem test_decode_row_7 : matrixRow 0x70 =
    [.bvs 0x34, .adcIndY 0x34, .undoc72, .undoc73 0x34,
     .undoc74 0x34, .adcZpX 0x34, .rorZpX 0x34, .undoc77 0x34,
     .sei, .adcAbsY 0x1234, .undoc7A, .undoc7B 0x1234,
     .undoc7C 0x1234, .adcAbsX 0x1234, .rorAbsX 0x1234, .undoc7F 0x1234] := by decide

theorem test_decode_row_8 : matrixRow 0x80 =
    [.undoc80 0x34, .staIndX 0x34, .undoc82 0x34, .undoc83 0x34,
     .styZp 0x34, .staZp 0x34, .stxZp 0x34, .undoc87 0x34,
     .dey, .undoc89 0x34, .txa, .undoc8B 0x34,
     .styAbs 0x1234, .staAbs 0x1234, .stxAbs 0x1234, .undoc8F 0x1234] := by decide

theorem test_decode_row_9 : matrixRow 0x90 =
    [.bcc 0x34, .staIndY 0x34, .undoc92, .undoc93 0x34,
     .styZpX 0x34, .staZpX 0x34, .stxZpY 0x34, .undoc97 0x34,
     .tya, .staAbsY 0x1234, .txs, .undoc9B 0x1234,
     .undoc9C 0x1234, .staAbsX 0x1234, .undoc9E 0x1234, .undoc9F 0x1234] := by decide

theorem test_decode_row_A : matrixRow 0xA0 =
    [.ldyImm 0x34, .ldaIndX 0x34, .ldxImm 0x34, .undocA3 0x34,
     .ldyZp 0x34, .ldaZp 0x34, .ldxZp 0x34, .undocA7 0x34,
     .tay, .ldaImm 0x34, .tax, .undocAB 0x34,
     .ldyAbs 0x1234, .ldaAbs 0x1234, .ldxAbs 0x1234, .undocAF 0x1234] := by decide

theorem test_decode_row_B : matrixRow 0xB0 =
    [.bcs 0x34, .ldaIndY 0x34, .undocB2, .undocB3 0x34,
     .ldyZpX 0x34, .ldaZpX 0x34, .ldxZpY 0x34, .undocB7 0x34,
     .clv, .ldaAbsY 0x1234, .tsx, .undocBB 0x1234,
     .ldyAbsX 0x1234, .ldaAbsX 0x1234, .ldxAbsY 0x1234, .undocBF 0x1234] := by decide

theorem test_decode_row_C : matrixRow 0xC0 =
    [.cpyImm 0x34, .cmpIndX 0x34, .undocC2 0x34, .undocC3 0x34,
     .cpyZp 0x34, .cmpZp 0x34, .decZp 0x34, .undocC7 0x34,
     .iny, .cmpImm 0x34, .dex, .undocCB 0x34,
     .cpyAbs 0x1234, .cmpAbs 0x1234, .decAbs 0x1234, .undocCF 0x1234] := by decide

theorem test_decode_row_D : matrixRow 0xD0 =
    [.bne 0x34, .cmpIndY 0x34, .undocD2, .undocD3 0x34,
     .undocD4 0x34, .cmpZpX 0x34, .decZpX 0x34, .undocD7 0x34,
     .cld, .cmpAbsY 0x1234, .undocDA, .undocDB 0x1234,
     .undocDC 0x1234, .cmpAbsX 0x1234, .decAbsX 0x1234, .undocDF 0x1234] := by decide

theorem test_decode_row_E : matrixRow 0xE0 =
    [.cpxImm 0x34, .sbcIndX 0x34, .undocE2 0x34, .undocE3 0x34,
     .cpxZp 0x34, .sbcZp 0x34, .incZp 0x34, .undocE7 0x34,
     .inx, .sbcImm 0x34, .nop, .undocEB 0x34,
     .cpxAbs 0x1234, .sbcAbs 0x1234, .incAbs 0x1234, .undocEF 0x1234] := by decide

theorem test_decode_row_F : matrixRow 0xF0 =
    [.beq 0x34, .sbcIndY 0x34, .undocF2, .undocF3 0x34,
     .undocF4 0x34, .sbcZpX 0x34, .incZpX 0x34, .undocF7 0x34,
     .sed, .sbcAbsY 0x1234, .undocFA, .undocFB 0x1234,
     .undocFC 0x1234, .sbcAbsX 0x1234, .incAbsX 0x1234, .undocFF 0x1234] := by decide

/-- `LDA #$10`, bit by bit: opcode `1010 1001`. -/
theorem test_decode_bits : decode [0b10101001, 0b00010000] = .ok (.ldaImm 0x10, []) ∧
    decode [0b01101100, 0b11111111, 0b00010010] = .ok (.jmpInd 0x12FF, []) :=
  ⟨rfl, rfl⟩

/-- The table-word numbering: the second byte is bits 15 to 8, the third bits 23 to 16. -/
theorem test_decode_table_word : decodeTableWord 24 0x1234AD = some (.ldaAbs 0x1234) ∧
    decodeTableWord 8 0xFFEA = some .nop := by decide

/-- Bytes that end inside an instruction are refused by name. -/
theorem test_decode_truncated : decode [] = .error .noOpcode ∧ decode [0xAD, 0x34] = .error .operandMissing :=
  ⟨rfl, rfl⟩

/-- R115, R90: encodings are the opcode and the operand, low byte first. -/
theorem test_encode : encode (.ldaAbsX 0x12FF) = [0xBD, 0xFF, 0x12] ∧ encode .brk = [0x00, 0x00] := by decide

/-! ### The step -/

/-- A placed `LDA #$80` is what the next step runs, and nothing else of the processor changes. -/
theorem test_withFetchWord : (after (step (State.reset.withFetchWord 16 0x80A9))).map (fun t => (seen t).1) =
    some [0x80, 0x00, 0x00, 0xFD, 0xA4, 0x0002, 2] := by decide +kernel

/-- One step of two cycles is six ticks of the picture processor (R320). -/
theorem test_step_ticks : (after (step (State.reset.withFetchWord 8 0xEA))).map (fun t => t.ppu.cycle) = some 6 := by
  decide +kernel

/-! ### Witnesses

One for the hypotheses of every statement that has some; a statement without hypotheses has none. -/

/-- Wiring and stack page of the witnesses. -/
theorem bench_plainStack (c : Cpu) (m : Memory) : plainStack (bench c m) := fun _ => ⟨rfl, rfl⟩

/-- The stack page is plain RAM after reset. -/
theorem reset_plainStack : plainStack State.reset := by
  unfold plainStack
  decide +kernel

theorem witness_LoadResults : (Instr.ldaIndY 0xFF).mnemonic = .lda ∧ (Instr.ldxZpY 0xFE).mnemonic = .ldx ∧
    (Instr.ldyImm 0x00).mnemonic = .ldy := by decide

theorem witness_StoreResults : (Instr.staIndX 0xFF).mnemonic = .sta ∧ (Instr.stxZpY 0xFE).mnemonic = .stx ∧
    (Instr.styAbs 0xFFFF).mnemonic = .sty := by decide

theorem witness_AdcResult : (Instr.adcImm 0x80).mnemonic = .adc := by decide

theorem witness_SbcResult : (Instr.sbcAbsX 0xFFFF).mnemonic = .sbc := by decide

theorem witness_CompareResults : (Instr.cmpImm 0x00).mnemonic = .cmp ∧ (Instr.cpxImm 0xFF).mnemonic = .cpx ∧
    (Instr.cpyAbs 0x0300).mnemonic = .cpy := by decide

theorem witness_IncDecMemoryResults : (Instr.incAbsX 0xFFFF).mnemonic = .inc ∧ (Instr.decZp 0x00).mnemonic = .dec := by
  decide

theorem witness_LogicResults : (Instr.andImm 0x00).mnemonic = .and ∧ (Instr.oraIndY 0xFF).mnemonic = .ora ∧
    (Instr.eorAbsX 0x02FF).mnemonic = .eor ∧ (Instr.bitZp 0x10).mnemonic = .bit := by decide

theorem witness_ShiftResults :
    (Instr.aslAcc.mnemonic = .asl ∧ Instr.aslAcc.operand = .accumulator) ∧
    ((Instr.aslZp 0xFF).mnemonic = .asl ∧ (Instr.aslZp 0xFF).operand ≠ .accumulator) ∧
    (Instr.lsrAcc.mnemonic = .lsr ∧ Instr.lsrAcc.operand = .accumulator) ∧
    ((Instr.lsrAbsX 0x02FF).mnemonic = .lsr ∧ (Instr.lsrAbsX 0x02FF).operand ≠ .accumulator) := by decide

theorem witness_RotateResults :
    (Instr.rolAcc.mnemonic = .rol ∧ Instr.rolAcc.operand = .accumulator) ∧
    ((Instr.rolZp 0x10).mnemonic = .rol ∧ (Instr.rolZp 0x10).operand ≠ .accumulator) ∧
    (Instr.rorAcc.mnemonic = .ror ∧ Instr.rorAcc.operand = .accumulator) ∧
    ((Instr.rorAbs 0x0300).mnemonic = .ror ∧ (Instr.rorAbs 0x0300).operand ≠ .accumulator) := by decide

/-- Each branch taken and not taken, with the offsets `$7F` and `$80` at the ends of the range. -/
theorem witness_BranchResults :
    let all : Flags := ⟨true, true, true, true, true, true⟩
    let case (i : Instr) (off : Byte) : Prop := i.operand = .relative off ∧
      (branchTaken i.mnemonic noFlags).isSome ∧ branchTaken i.mnemonic noFlags = (branchTaken i.mnemonic all).map (!·)
    case (.bcc 0x7F) 0x7F ∧ case (.bcs 0x80) 0x80 ∧ case (.beq 0x00) 0x00 ∧ case (.bne 0xFE) 0xFE ∧
    case (.bmi 0x7F) 0x7F ∧ case (.bpl 0x80) 0x80 ∧ case (.bvc 0x00) 0x00 ∧ case (.bvs 0xFF) 0xFF := by decide

theorem witness_UndocResult : (Instr.undoc03 0xFF).mnemonic = .undoc ∧ Instr.undoc02.mnemonic = .undoc := by decide

/-- With the stack pointer at both ends of the page. -/
theorem witness_StackRoundTrips :
    (plainStack (bench { start with sp := 0x00 } []) ∧ (bench { start with sp := 0x00 } []).bus.backing.wf) ∧
    (plainStack State.reset ∧ State.reset.bus.backing.wf) :=
  ⟨⟨bench_plainStack _ _, by decide⟩, reset_plainStack, by decide⟩

theorem witness_BreakReturnRoundTrip :
    plainStack (bench { start with sp := 0x01 } vectors) ∧ (bench { start with sp := 0x01 } vectors).bus.backing.wf ∧
    ∃ t : State, exec .brk (bench { start with sp := 0x01 } vectors) = .next t ∧ plainStack t :=
  ⟨bench_plainStack _ _, by decide, _, rfl, fun _ => ⟨rfl, rfl⟩⟩

theorem witness_RegisterFrame : ∃ t : State, exec (.ldaImm 0x00) State.reset = .next t := ⟨_, rfl⟩

theorem witness_NoStoreFrame :
    (∃ t : State, exec (.ldaAbs 0x0000) State.reset = .next t) ∧
    (Instr.ldaAbs 0x0000).mnemonic ∉ [.sta, .stx, .sty, .pha, .php, .jsr, .brk] ∧
    ((Instr.ldaAbs 0x0000).mnemonic ∈ [.inc, .dec, .asl, .lsr, .rol, .ror] →
      (Instr.ldaAbs 0x0000).operand = .accumulator) ∧
    (Instr.rorAcc.mnemonic ∈ [.inc, .dec, .asl, .lsr, .rol, .ror] → Instr.rorAcc.operand = .accumulator) :=
  ⟨⟨_, rfl⟩, by decide, by decide, by decide⟩

/-- Each clause has an instruction, an address it does not store to, and a state in which it completes. -/
theorem witness_StoreFrame :
    let s := bench start []
    ((∃ t : State, exec (.staAbs 0xFFFF) s = .next t) ∧ (Instr.staAbs 0xFFFF).mnemonic ∈ [.sta, .stx, .sty] ∧
      storedAt (prepare (.absolute 0xFFFF) ⟨3, 4, false⟩ s).1 (prepare (.absolute 0xFFFF) ⟨3, 4, false⟩ s).2 ≠ some 0) ∧
    ((∃ t : State, exec (.incZp 0x00) s = .next t) ∧
      (Instr.incZp 0x00).mnemonic ∈ [.inc, .dec, .asl, .lsr, .rol, .ror] ∧ (Instr.incZp 0x00).operand ≠ .accumulator ∧
      storedAt 0x0000 s ≠ some 1) ∧
    ((∃ t : State, exec .pha s = .next t) ∧ Instr.pha.mnemonic ∈ [.pha, .php] ∧ storedAt (stackSlot 0xFD) s ≠ some 0x1FC) ∧
    ((∃ t : State, exec (.jsrAbs 0x9000) s = .next t) ∧ (Instr.jsrAbs 0x9000).mnemonic = .jsr ∧
      storedAt (stackSlot 0xFD) s ≠ some 0x1FB ∧ storedAt (stackSlot 0xFC) s ≠ some 0x1FB) ∧
    ((∃ t : State, exec .brk s = .next t) ∧ Instr.brk.mnemonic = .brk ∧ storedAt (stackSlot 0xFD) s ≠ some 0x1FA ∧
      storedAt (stackSlot 0xFC) s ≠ some 0x1FA ∧ storedAt (stackSlot 0xFB) s ≠ some 0x1FA) :=
  ⟨⟨⟨_, rfl⟩, by decide, by decide⟩, ⟨⟨_, rfl⟩, by decide, by decide, by decide⟩, ⟨⟨_, rfl⟩, by decide, by decide⟩,
    ⟨⟨_, rfl⟩, by decide, by decide, by decide⟩, ⟨_, rfl⟩, by decide, by decide, by decide, by decide⟩

theorem witness_RamAccess : targetOf State.reset.bus.readSlots 0x1FFF = (0x07FF, .ram) ∧
    targetOf State.reset.bus.writeSlots 0x1FFF = (0x07FF, .ram) ∧ State.reset.bus.backing.wf := by decide +kernel

theorem witness_InterruptEntryResult : plainStack (bench start vectors) ∧ (bench start vectors).bus.backing.wf :=
  ⟨bench_plainStack _ _, by decide⟩

/-- The three clauses, the third both ways. -/
theorem witness_InterruptSampling :
    let nmi : State := { bench start vectors with lines := ⟨0, true, ⟨true, false, false⟩⟩ }
    let irq : State := { bench start vectors with lines := ⟨0, false, ⟨false, true, false⟩⟩ }
    let masked : State := { irq with cpu := { start with p := { noFlags with i := true } } }
    let quiet : State := bench start vectors
    (nmi.lines.stall = 0 ∧ nmi.lines.nmiPending = true) ∧
    (irq.lines.stall = 0 ∧ irq.lines.nmiPending = false ∧ irq.lines.irq ≠ ⟨false, false, false⟩ ∧ irq.cpu.p.i = false) ∧
    (masked.lines.stall = 0 ∧ masked.lines.nmiPending = false ∧ masked.cpu.p.i = true) ∧
    (quiet.lines.stall = 0 ∧ quiet.lines.nmiPending = false ∧ quiet.lines.irq = ⟨false, false, false⟩) := by decide

theorem witness_StallUnitsConsumed :
    ({ State.reset with lines := ⟨514, true, ⟨true, false, false⟩⟩ } : State).lines.stall = 514 := by decide

theorem witness_OrchestratorStep : ∃ t : State, executeInstruction (bench start vectors) = .next t := ⟨_, rfl⟩

/-- Without an interrupt, and with an NMI that is entered before the fetch. -/
theorem witness_StepRunsDecodedInstruction :
    let s := bench start [(0x8000, 0xAD), (0x8001, 0x34), (0x8002, 0x12)]
    let n : State := { bench start vectors with lines := ⟨0, true, ⟨false, false, false⟩⟩ }
    (s.lines.stall = 0 ∧
      (readBytes (1 + operandBytes 0xAD) (sampleInterrupts s).cpu.pc (sampleInterrupts s)).1 = 0xAD :: [0x34, 0x12] ∧
      decode [0xAD, 0x34, 0x12] = .ok (.ldaAbs 0x1234, [])) ∧
    (n.lines.stall = 0 ∧
      (readBytes (1 + operandBytes 0xC8) (sampleInterrupts n).cpu.pc (sampleInterrupts n)).1 = 0xC8 :: [] ∧
      decode [0xC8] = .ok (.iny, [])) :=
  ⟨⟨rfl, rfl, rfl⟩, rfl, rfl, rfl⟩

/-- The two ends: a stall unit takes 1 cycle, an NMI entry and an 8-cycle instruction take 15. -/
theorem witness_CyclesPerCall :
    (after (executeInstruction { State.reset with lines := ⟨1, false, ⟨false, false, false⟩⟩ })).map (·.cpu.cycles) =
      some 1 ∧
    (after (executeInstruction { bench start [(0x9000, 0x03), (0xFFFB, 0x90)] with
      lines := ⟨0, true, ⟨false, false, false⟩⟩ })).map (·.cpu.cycles) = some 15 := by decide

theorem witness_EncodeDecodeBytes : decode [0xA9, 0x10, 0xFF] = .ok (.ldaImm 0x10, [0xFF]) ∧
    (Instr.ldaImm 0x10).mnemonic ≠ .brk :=
  ⟨rfl, by decide⟩

/-- At both ends of the range. -/
theorem witness_BranchOffsetInverse :
    branchOffset 0x8000 0x8081 = .ok 0x7F ∧ branchOffset 0x8000 0x7F82 = .ok 0x80 ∧ (bench start []).cpu.pc = 0x8000 :=
  ⟨rfl, rfl, rfl⟩

/-- The ends of the range and of the canonical segment. -/
theorem witness_MirroringRedirects :
    (∃ t : State, configureAddressMirroring 0x0000 0x0800 0x2000 State.reset = .next t) ∧
    (0x0000 + 0x0800 ≤ 0x0800 ∧ 0x1FFF < 0x0000 + 0x2000) ∧ (0x07FF < 0x0000 + 0x0800 ∧ 0x0000 + 0x2000 ≤ 0x2000) :=
  ⟨⟨_, rfl⟩, by decide, by decide⟩

theorem witness_RamAliasesAgree : State.reset.bus.readSlots = consoleReadSlots ∧
    State.reset.bus.writeSlots = consoleWriteSlots ∧ State.reset.bus.backing.wf ∧ (0x07FF : Word).toNat < 0x2000 ∧
    (0x1FFF : Word).toNat < 0x2000 ∧ (0x07FF : Word).toNat % 0x800 = (0x1FFF : Word).toNat % 0x800 := by decide

/-- Every boundary of R61's map. -/
theorem witness_ConsoleAddressMap :
    targetOf consoleReadSlots 0x0000 = (0x0000, .ram) ∧ targetOf consoleReadSlots 0x1FFF = (0x07FF, .ram) ∧
    targetOf consoleReadSlots 0x2000 = (0x2000, .ppuPort) ∧ targetOf consoleReadSlots 0x3FFF = (0x2007, .ppuPort) ∧
    targetOf consoleReadSlots 0x4000 = (0x4000, .apu) ∧ targetOf consoleReadSlots 0x4013 = (0x4013, .apu) ∧
    targetOf consoleReadSlots 0x4014 = (0x4014, .oamDma) ∧ targetOf consoleReadSlots 0x4015 = (0x4015, .apu) ∧
    targetOf consoleReadSlots 0x4016 = (0x4016, .controller false) ∧
    targetOf consoleReadSlots 0x4017 = (0x4017, .controller true) ∧
    targetOf consoleWriteSlots 0x4017 = (0x4017, .apu) ∧ targetOf consoleReadSlots 0x4018 = (0x4018, .ram) ∧
    targetOf consoleWriteSlots 0xFFFF = (0xFFFF, .ram) := by decide +kernel

theorem witness_BusConfiguration : 0x2100 % 0x0800 ≠ 0 := by decide

theorem witness_OamDmaCopy :
    targetOf State.reset.bus.writeSlots 0x4014 = (0x4014, .oamDma) ∧
    (∀ i : Byte, (targetOf State.reset.bus.readSlots (littleEndian i 0x02)).2 = .ram) ∧ State.reset.ppu.oam.wf := by
  decide +kernel

theorem witness_WriteToggle : 5 < 8 ∧ (5 = 5 ∨ 5 = 6) ∧ (6 = 5 ∨ 6 = 6) ∧ (7 ≠ 5 ∧ 7 ≠ 6) ∧ 2 = 2 ∧ 0 ≠ 2 := by decide

theorem witness_ScrollWrites : State.reset.ppu.w = false ∧
    ({ State.reset with ppu := { Ppu.initial with w := true } } : State).ppu.w = true := by decide

/-- The data port's address on both sides of the palette's start, and a cartridge's interception of the two kinds of
access at the ends of its ranges, with the byte under a palette address intercepted on its own. -/
theorem witness_DataPort :
    let below : BitVec 15 := 0x7EFF
    let above : BitVec 15 := 0x3F00
    let slots : List PpuSpan := [⟨0x2F00, 0x2F00, true, false⟩, ⟨0x3FFF, 0x3FFF, true, false⟩, ⟨0, 0x1FFF, true, true⟩]
    (below.toNat % 0x4000 = 0x3EFF ∧ ppuMapped PpuSpan.reads slots 0x3EFF = false ∧
      ppuMapped PpuSpan.writes slots 0x3EFF = false) ∧
    (ppuMapped PpuSpan.reads slots 0x1FFF = true ∧ ppuMapped PpuSpan.writes slots 0x1FFF = true) ∧
    (0x3F00 ≤ above.toNat % 0x4000 ∧ ppuMapped PpuSpan.reads slots 0x3F00 = false ∧
      ppuMapped PpuSpan.reads slots (0x3F00 - 0x1000) = true ∧ ppuMapped PpuSpan.reads slots (0x3F01 - 0x1000) = false) ∧
    (ppuMapped PpuSpan.reads slots 0x3FFF = true ∧ ppuMapped PpuSpan.writes slots 0x3FFF = false) := by decide

/-- The clauses in order. -/
theorem witness_NmiDelay :
    let p : Ppu := { Ppu.initial with vblank := true }
    let q : Ppu := { Ppu.initial with ctrl := 0x80, cycle := 1, scanLine := 241 }
    ((p.ctrl.getLsbD 7 && p.vblank) = false ∧ (0x80 : Byte).getLsbD 7 = true ∧ p.vblank = true) ∧
    (Ppu.initial.vblank = false) ∧
    (q.cycle = 1 ∧ q.scanLine = 241 ∧ q.ctrl.getLsbD 7 = true ∧ q.vblank = false) ∧
    ¬(p.cycle = 1 ∧ p.scanLine = 241 ∧ p.ctrl.getLsbD 7 = true ∧ p.vblank = false) := by
  decide

/-- The first and last tick of a frame, and the two VBlank ticks. -/
theorem witness_TickCountersAndVblank :
    let at_ (line cycle : Nat) : Ppu := { Ppu.initial with scanLine := line, cycle := cycle }
    ((at_ 0 0).cycle ≤ 340 ∧ (at_ 0 0).scanLine ≤ 261 ∧ (at_ 0 0).cycle < 340 ∧ (at_ 0 0).cycle ≠ 1) ∧
    ((at_ 261 340).cycle ≤ 340 ∧ (at_ 261 340).scanLine ≤ 261 ∧ (at_ 261 340).cycle = 340) ∧
    ((at_ 241 1).cycle = 1 ∧ (at_ 241 1).scanLine = 241) ∧ ((at_ 261 1).cycle = 1 ∧ (at_ 261 1).scanLine = 261) := by
  decide

/-- The sprites of S14: the ninth qualifies and is not retained. -/
theorem witness_SpriteEvaluation :
    let s := spriteLine [0, 1, 2, 3, 4, 5, 6, 7, 8]
    ((s.ppu.oam.read (4 * 8)).toNat ≤ s.ppu.scanLine ∧ s.ppu.scanLine - (s.ppu.oam.read (4 * 8)).toNat < 8) ∧
    8 ∉ (evaluateSprites s).ppu.sprites.map Sprite.index ∧ 7 ∈ (evaluateSprites s).ppu.sprites.map Sprite.index := by
  decide +kernel

/-- The clauses' cycles at the ends of their ranges, and the fields at which the increments wrap. -/
theorem witness_ScrollIncrements :
    let at_ (line cycle : Nat) : Ppu := { Ppu.initial with mask := 0x18, scanLine := line, cycle := cycle }
    let ready (p : Ppu) : Bool :=
      decide ((p.mask.getLsbD 3 = true ∨ p.mask.getLsbD 4 = true) ∧ (p.scanLine < 240 ∨ p.scanLine = 261))
    (ready (at_ 239 1) ∧ ready (at_ 0 255) ∧ ready (at_ 0 256) ∧ ready (at_ 0 257) ∧ ready (at_ 261 280) ∧
      ready (at_ 261 304) ∧ ready (at_ 0 321) ∧ ready (at_ 0 336)) ∧
    (ready (at_ 261 0) ∧ ready (at_ 261 258) ∧ ready (at_ 261 279) ∧ ready (at_ 261 305) ∧ ready (at_ 0 320) ∧
      ready (at_ 0 337) ∧ ready (at_ 239 340)) ∧
    (¬ready (at_ 240 256) ∧ ¬ready (at_ 260 257) ∧ ¬ready Ppu.initial) ∧
    field 0 5 0x001F = 31 ∧ field 12 3 0x7000 = 7 ∧ field 5 5 0x73A0 = 29 ∧ field 5 5 0x73E0 = 31 := by decide

/-- A hidden picture, and a sprite seen at the first and at the last column. -/
theorem witness_PixelCompositing :
    let hidden : Ppu := { Ppu.initial with cycle := 1 }
    let shown (cycle : Nat) (mask x : Byte) : Ppu :=
      { Ppu.initial with cycle := cycle, scanLine := 239, mask := mask, sprites := [⟨0x00000003, x, false, 0⟩] }
    (hidden.scanLine < 240 ∧ 1 ≤ hidden.cycle ∧ hidden.cycle ≤ 256 ∧ hidden.mask.getLsbD 3 = false ∧
      hidden.mask.getLsbD 4 = false ∧ visibleSpriteAt hidden 0 = none) ∧
    (1 ≤ (shown 1 0x14 0x00).cycle ∧ (shown 1 0x14 0x00).mask.getLsbD 4 = true ∧
      (shown 1 0x14 0x00).mask.getLsbD 2 = true ∧
      visibleSpriteAt (shown 1 0x14 0x00) 0 = some ⟨0x00000003, 0x00, false, 0⟩) ∧
    ((shown 256 0x10 0xFF).cycle ≤ 256 ∧ (shown 256 0x10 0xFF).mask.getLsbD 4 = true ∧ 8 ≤ (shown 256 0x10 0xFF).cycle - 1 ∧
      visibleSpriteAt (shown 256 0x10 0xFF) 255 = some ⟨0x00000003, 0xFF, false, 0⟩) := by decide

theorem witness_CollaboratorPorts :
    let pad : Controller := { Controller.initial with serial := [0x01] }
    let bare : Controller := { Controller.initial with isSerial := false, portValues := [0x02] }
    let silent : Controller := { Controller.initial with isSerial := false, serial := [0x01] }
    targetOf State.reset.bus.readSlots 0x4016 = (0x4016, .controller false) ∧
    targetOf State.reset.bus.readSlots 0x4017 = (0x4017, .controller true) ∧
    targetOf State.reset.bus.writeSlots 0x4016 = (0x4016, .controller false) ∧
    pad.isSerial = true ∧ pad.serial = 0x01 :: [] ∧ bare.isSerial = false ∧
    bare.portValues = 0x02 :: [] ∧ (if pad.isSerial then pad.portValues else pad.serial) = [] ∧
    (if silent.isSerial then silent.serial else silent.portValues) = [] ∧ 0x4100 ≤ (0x4100 : Word).toNat ∧
    (0x40FF : Word).toNat < 0x4100 := by decide +kernel

theorem witness_StepKeepsInvariant :
    (bench start vectors).Inv ∧ ∃ t : State, step (bench start vectors) = .next t :=
  ⟨⟨⟨by decide, by decide, by simp [bench, wiringSound], by simp [bench, wiringSound]⟩, by decide⟩, _, rfl⟩

/-- `Reset()` of the machine after reset changes nothing (R401). -/
theorem test_reset_fixed : resetProcessor State.reset = State.reset := by decide +kernel

end Sys2Proof.Tests
end

section
/-! PROOFS. The state family: the status byte, the pending events, reset, the plain stack page, stall units, and the
register frame of all 256 instructions. -/

namespace Sys2Proof.Machine

/-! ### The status byte -/

/-- Every bit of a byte put together from flags is the flag it was made of. -/
theorem byteOfBits_getLsbD : ∀ b7 b6 b5 b4 b3 b2 b1 b0 : Bool,
    let v := byteOfBits b7 b6 b5 b4 b3 b2 b1 b0
    v.getLsbD 0 = b0 ∧ v.getLsbD 1 = b1 ∧ v.getLsbD 2 = b2 ∧ v.getLsbD 3 = b3 ∧
      v.getLsbD 4 = b4 ∧ v.getLsbD 5 = b5 ∧ v.getLsbD 6 = b6 ∧ v.getLsbD 7 = b7 := by
  decide

/-- A byte put together from flags as a number: no sum of its place values overflows. -/
theorem byteOfBits_toNat (b7 b6 b5 b4 b3 b2 b1 b0 : Bool) :
    (byteOfBits b7 b6 b5 b4 b3 b2 b1 b0).toNat =
      128 * b7.toNat + 64 * b6.toNat + 32 * b5.toNat + 16 * b4.toNat + 8 * b3.toNat + 4 * b2.toNat
        + 2 * b1.toNat + b0.toNat := by
  have hle := Bool.toNat_le
  have h7 := hle b7; have h6 := hle b6; have h5 := hle b5; have h4 := hle b4
  have h3 := hle b3; have h2 := hle b2; have h1 := hle b1; have h0 := hle b0
  rw [byteOfBits, BitVec.toNat_ofNat]
  omega

/-- R31, R32: unpacking ignores bits 4 and 5, the only ones that packing does not take from the flags. -/
theorem unpackP_packP (p : Flags) (b4 : Bool) : unpackP (packP b4 p) = p := by
  obtain ⟨h0, h1, h2, h3, -, -, h6, h7⟩ := byteOfBits_getLsbD p.n p.v true b4 p.d p.i p.z p.c
  simp only [unpackP, packP, h0, h1, h2, h3, h6, h7]

/-- Settles O22: the place values of the packed bits, and `unpackP_packP` for the way back. -/
theorem statusByteRoundTrip : Obligations.StatusByteRoundTrip := by
  refine ⟨fun p b4 => ?_, fun _ => rfl, unpackP_packP⟩
  rw [packP, byteOfBits_toNat, Bool.toNat_true]
  omega

/-! ### The IRQ sources -/

/-- R303: a request adds its own source to the set and no other. -/
theorem irqPending_requestIrq (s : State) (k j : IrqSource) :
    irqPending j (requestIrq k s) = (decide (j = k) || irqPending j s) := by
  cases k <;> cases j <;> rfl

/-- R303: a cancel removes its own source from the set and no other. -/
theorem irqPending_cancelIrq (s : State) (k j : IrqSource) :
    irqPending j (cancelIrq k s) = (decide (j ≠ k) && irqPending j s) := by
  cases k <;> cases j <;> rfl

/-- Settles O31: each source has a bit of its own in the set. -/
theorem irqSourcesIndependent : Obligations.IrqSourcesIndependent := fun s k j =>
  ⟨irqPending_requestIrq s k j, irqPending_cancelIrq s k j, rfl, rfl⟩

/-! ### Reset -/

/-- A read that ends in RAM gives the byte of the backing array and changes nothing. -/
theorem memRead_ram {s : State} {a : Word} {k : Nat} (h : targetOf s.bus.readSlots a = (k, .ram)) :
    memRead a s = (s.bus.backing.read k, s) := by
  rw [memRead, h]; rfl

/-- A write that ends in RAM stores one byte of the backing array and changes nothing else. -/
theorem memWrite_ram {s : State} {a : Word} {k : Nat} (v : Byte) (h : targetOf s.bus.writeSlots a = (k, .ram)) :
    memWrite a v s = { s with bus := { s.bus with backing := s.bus.backing.write k v } } := by
  rw [memWrite, h]; rfl

/-- R61: after reset the reset vector lies in RAM, which is zero. -/
theorem read16_resetVector_reset : read16 Config.resetVector State.reset = (0x0000, State.reset) := by
  have hlo : memRead Config.resetVector State.reset = (0, State.reset) :=
    memRead_ram (targetOf_self (by decide) (by simp))
  have hhi : memRead (Config.resetVector + 1) State.reset = (0, State.reset) :=
    memRead_ram (targetOf_self (by decide) (by simp))
  rw [read16, hlo, hhi]
  rfl

/-- R401, R402: `Reset()` right after power-on changes nothing. -/
theorem resetProcessor_reset : resetProcessor State.reset = State.reset := by
  rw [resetProcessor, read16_resetVector_reset]
  rfl

/-- Settles O34: the fields of `State.reset`, its empty memories, and `resetProcessor_reset`. -/
theorem resetValues : Obligations.ResetValues :=
  ⟨rfl, rfl, rfl, rfl, rfl, Memory.read_nil, rfl, rfl, rfl, rfl, rfl, rfl, rfl, rfl, rfl, rfl, rfl, rfl, rfl, rfl,
    Memory.read_nil, resetProcessor_reset⟩

/-- R61, R65: every redirect of the console's wiring lies above its canonical segment. -/
theorem consoleWiring_sound : wiringSound consoleReadSlots ∧ wiringSound consoleWriteSlots := by
  constructor <;> simp [consoleReadSlots, consoleWriteSlots, consoleMirrors, wiringSound, Span.sound]

/-- R340, R402: the picture processor after construction is within its ranges. -/
theorem ppuInitial_sound : Ppu.initial.sound := by decide

/-- Settles O59: the memories are empty, the wiring is the console's, the picture processor the initial one. -/
theorem resetMeetsInvariant : Obligations.ResetMeetsInvariant :=
  ⟨⟨by decide, by decide, consoleWiring_sound⟩, ppuInitial_sound⟩

/-! ### Stall units -/

/-- R305: with a stall unit pending, a call consumes one and does nothing else. -/
theorem executeInstruction_stalled {s : State} (h : s.lines.stall ≠ 0) :
    executeInstruction s = .next (stallUnit s) := if_neg h

/-- Settles O32, by induction on the number of pending stall units. -/
theorem stallUnitsConsumed : Obligations.StallUnitsConsumed := by
  intro n
  induction n with
  | zero =>
    intro s hs
    simp only [executeTimes, Nat.add_zero]
    rw [← hs]
  | succ n ih =>
    intro s hs
    have hrest : (stallUnit s).lines.stall = n := by simp [hs]
    have hcycles : s.cpu.cycles + 1 + n = s.cpu.cycles + (n + 1) := by omega
    simp only [executeTimes, executeInstruction_stalled (s := s) (by omega), ih _ hrest]
    simp only [stallUnit, hcycles]

/-! ### The plain stack page -/

/-- R23: where the model's stack accesses go. -/
theorem stackAddress_eq_stackSlot (sp : Byte) : stackAddress sp = stackSlot sp := rfl

/-- R23: the stack lies in page `$01`. -/
theorem stackSlot_toNat (sp : Byte) : (stackSlot sp).toNat = 256 + sp.toNat := by
  have h := sp.isLt
  rw [stackSlot, BitVec.toNat_add, BitVec.toNat_setWidth]
  have h1 : (0x0100 : Word).toNat = 256 := rfl
  omega

/-- Different stack pointers designate different addresses. -/
theorem stackSlot_toNat_ne {a b : Byte} (h : a ≠ b) : (stackSlot a).toNat ≠ (stackSlot b).toNat := fun he =>
  h (BitVec.eq_of_toNat_eq (by rw [stackSlot_toNat, stackSlot_toNat] at he; omega))

/-- R24: a push on a plain stack page stores one byte of the backing array and counts `SP` down. -/
theorem push_plain {s : State} (h : plainStack s) (v : Byte) :
    push v s = { s with
      cpu := { s.cpu with sp := s.cpu.sp - 1 }
      bus := { s.bus with backing := s.bus.backing.write (stackSlot s.cpu.sp).toNat v } } := by
  rw [push, stackAddress_eq_stackSlot, memWrite_ram v (h s.cpu.sp).2]

/-- R25: a pull from a plain stack page counts `SP` up and reads the byte there. -/
theorem pull_plain {s : State} (h : plainStack s) :
    pull s = (s.bus.backing.read (stackSlot (s.cpu.sp + 1)).toNat,
      { s with cpu := { s.cpu with sp := s.cpu.sp + 1 } }) :=
  memRead_ram (h (s.cpu.sp + 1)).1

/-- A push keeps the stack page plain. -/
theorem push_keeps_plainStack {s : State} (h : plainStack s) (v : Byte) : plainStack (push v s) := by
  rw [push_plain h]; exact h

/-- A push keeps the canonical form of the backing array. -/
theorem push_keeps_wf {s : State} (h : plainStack s) (hw : s.bus.backing.wf) (v : Byte) :
    (push v s).bus.backing.wf := by
  rw [push_plain h]; exact Memory.write_wf _ _ _ hw

/-- A pushed byte stands at the address `SP` designated before. -/
theorem push_read_same {s : State} (h : plainStack s) (hw : s.bus.backing.wf) (v : Byte) :
    (push v s).bus.backing.read (stackSlot s.cpu.sp).toNat = v := by
  rw [push_plain h]; exact Memory.read_write_eq _ _ _ hw

/-- A push leaves the other bytes of the stack page alone. -/
theorem push_read_other {s : State} (h : plainStack s) (v : Byte) {sp : Byte} (hne : s.cpu.sp ≠ sp) :
    (push v s).bus.backing.read (stackSlot sp).toNat = s.bus.backing.read (stackSlot sp).toNat := by
  rw [push_plain h]; exact Memory.read_write_ne _ _ _ _ (stackSlot_toNat_ne hne)

/-- R24, R25: a pull gives back the byte pushed and the stack pointer, whatever the other registers hold by then. -/
theorem pull_push {s : State} (h : plainStack s) (hw : s.bus.backing.wf) (v : Byte) (c : Cpu)
    (hc : c.sp = s.cpu.sp - 1) :
    pull { push v s with cpu := c } = (v, { push v s with cpu := { c with sp := s.cpu.sp } }) := by
  have hback : c.sp + 1 = s.cpu.sp := by rw [hc, BitVec.sub_add_cancel]
  rw [pull_plain (s := { push v s with cpu := c }) (push_keeps_plainStack h v)]
  simp only [hback, push_read_same h hw]

/-- R24, R25: likewise a 16-bit pull and the word pushed. -/
theorem pull16_push16 {s : State} (h : plainStack s) (hw : s.bus.backing.wf) (w : Word) (c : Cpu)
    (hc : c.sp = s.cpu.sp - 1 - 1) :
    pull16 { push16 w s with cpu := c } = (w, { push16 w s with cpu := { c with sp := s.cpu.sp } }) := by
  have h1 := push_keeps_plainStack h (hiByte w)
  have hlo : pull { push16 w s with cpu := c } =
      (loByte w, { push16 w s with cpu := { c with sp := s.cpu.sp - 1 } }) := by
    have := pull_push h1 (push_keeps_wf h hw (hiByte w)) (loByte w) c (by rw [push_cpu, hc])
    rwa [push_cpu] at this
  have hhi : pull { push16 w s with cpu := { c with sp := s.cpu.sp - 1 } } =
      (hiByte w, { push16 w s with cpu := { c with sp := s.cpu.sp } }) := by
    rw [pull_plain (s := { push16 w s with cpu := { c with sp := s.cpu.sp - 1 } })
      (push_keeps_plainStack h1 (loByte w))]
    have hne : (push (hiByte w) s).cpu.sp ≠ s.cpu.sp := by rw [push_cpu]; bv_omega
    simp only [BitVec.sub_add_cancel, push16, push_read_other h1 _ hne, push_read_same h hw]
  rw [pull16, hlo, hhi, wordOfBytes_lo_hi]

/-- R146, R148: `PLA` gives back what `PHA` pushed; only the accounting and the flags of the byte pulled show. -/
theorem opPla_opPha {s : State} (h : plainStack s) (hw : s.bus.backing.wf) (t u : Timing) :
    opPla u (opPha t s) = { opPha t s with cpu := { s.cpu with
      pc := s.cpu.pc + BitVec.ofNat 16 t.size + BitVec.ofNat 16 u.size
      p := setZN s.cpu.a s.cpu.p
      cycles := s.cpu.cycles + t.cycles + u.cycles } } := by
  have hpull : pull (prepare .implied u (opPha t s)).2 = _ :=
    pull_push (s := (prepare .implied t s).2) h hw s.cpu.a (accountFor u false (opPha t s).cpu)
      (by simp [opPha])
  rw [opPla, hpull]
  simp [opPha, accountFor, resolve]

/-- R201, R202: `RTS` continues behind the `JSR`. -/
theorem opRts_opJsr {s : State} (h : plainStack s) (hw : s.bus.backing.wf) (a : Word) (t u : Timing) :
    opRts u (opJsr (.absolute a) t s) = { opJsr (.absolute a) t s with cpu := { s.cpu with
      pc := s.cpu.pc + BitVec.ofNat 16 t.size
      cycles := s.cpu.cycles + t.cycles + u.cycles } } := by
  have hpull : pull16 (prepare .implied u (opJsr (.absolute a) t s)).2 = _ :=
    pull16_push16 (s := (prepare (.absolute a) t s).2) h hw (s.cpu.pc + BitVec.ofNat 16 t.size - 1)
      (accountFor u false (opJsr (.absolute a) t s).cpu) (by simp [opJsr])
  rw [opRts, hpull]
  simp [opJsr, accountFor, resolve]

/-- Settles O23: `opPla_opPha` and `opRts_opJsr` on the two pairs of instructions. -/
theorem stackRoundTrips : Obligations.StackRoundTrips := by
  intro s a h hw
  refine ⟨⟨_, _, rfl, rfl, ?_⟩, _, _, rfl, rfl, ?_⟩
  · have hbyte : (opPha ⟨1, 3, false⟩ s).bus.backing.read (stackSlot s.cpu.sp).toNat = s.cpu.a :=
      push_read_same (s := (prepare .implied ⟨1, 3, false⟩ s).2) h hw s.cpu.a
    rw [opPla_opPha h hw]
    exact ⟨by simp [opPha], hbyte, rfl, rfl, rfl, rfl⟩
  · have hsp : s.cpu.sp - 1 - 1 = s.cpu.sp - 2 := by bv_omega
    rw [opRts_opJsr h hw]
    exact ⟨rfl, by simpa [opJsr] using hsp, rfl⟩

/-! ### The register frame -/

/-- Between the registers `c` and `d`, an instruction of mnemonic `m` on operand `o` changed only what the rules of `m`
say it may write (the frame of `Obligations.RegisterFrame`). -/
def RegistersKept (m : Mnemonic) (o : Operand) (c d : Cpu) : Prop :=
  (d.a = c.a ∨ o = .accumulator ∨ m ∈ [.lda, .txa, .tya, .pla, .adc, .sbc, .and, .ora, .eor]) ∧
  (d.x = c.x ∨ m ∈ [.ldx, .tax, .tsx, .inx, .dex]) ∧
  (d.y = c.y ∨ m ∈ [.ldy, .tay, .iny, .dey]) ∧
  (d.sp = c.sp ∨ m ∈ [.txs, .pha, .php, .pla, .plp, .jsr, .rts, .brk, .rti]) ∧
  (d.p.c = c.p.c ∨ m ∈ [.adc, .sbc, .cmp, .cpx, .cpy, .asl, .lsr, .rol, .ror, .clc, .sec, .plp, .rti]) ∧
  (d.p.z = c.p.z ∨
    m ∈ [.lda, .ldx, .ldy, .tax, .tay, .txa, .tya, .tsx, .pla, .adc, .sbc, .cmp, .cpx, .cpy, .inc, .inx,
      .iny, .dec, .dex, .dey, .and, .ora, .eor, .asl, .lsr, .rol, .ror, .bit, .plp, .rti]) ∧
  (d.p.i = c.p.i ∨ m ∈ [.sei, .cli, .plp, .rti, .brk]) ∧
  (d.p.d = c.p.d ∨ m ∈ [.sed, .cld, .plp, .rti]) ∧
  (d.p.v = c.p.v ∨ m ∈ [.adc, .sbc, .bit, .clv, .plp, .rti]) ∧
  (d.p.n = c.p.n ∨
    m ∈ [.lda, .ldx, .ldy, .tax, .tay, .txa, .tya, .tsx, .pla, .adc, .sbc, .cmp, .cpx, .cpy, .inc, .inx,
      .iny, .dec, .dex, .dey, .and, .ora, .eor, .asl, .lsr, .rol, .ror, .bit, .plp, .rti])

/-- Registers that differ in `PC` and `cycles` only are within every frame. -/
theorem RegistersKept.of_accountFor {m : Mnemonic} {o : Operand} (t : Timing) (crossed : Bool) {c d : Cpu}
    (h : RegistersKept m o (accountFor t crossed c) d) : RegistersKept m o c d := h

/-- A frame of the flags is one of the accumulator form too, which may write `A`. -/
theorem RegistersKept.setA_accumulator {m : Mnemonic} {c d : Cpu} (a : Byte)
    (h : RegistersKept m .accumulator c d) : RegistersKept m .accumulator c { d with a := a } :=
  ⟨.inr (.inl rfl), h.2⟩

theorem readOp_registersKept {m : Mnemonic} {f : Byte → Cpu → Cpu} {o : Operand}
    (hf : ∀ v c, RegistersKept m o c (f v c)) (t : Timing) (s : State) :
    RegistersKept m o s.cpu (readOp f o t s).cpu := by
  rw [readOp_cpu]
  exact (hf _ _).of_accountFor t (resolve o s).1.crossed

theorem registerOp_registersKept {m : Mnemonic} {f : Cpu → Cpu} {o : Operand}
    (hf : ∀ c, RegistersKept m o c (f c)) (t : Timing) (s : State) :
    RegistersKept m o s.cpu (registerOp f t s).cpu := by
  rw [registerOp_cpu]
  exact (hf _).of_accountFor t false

/-- The accumulator form writes `A` and the flags, a memory form the flags only. -/
theorem modifyOp_registersKept {m : Mnemonic} {f : Byte → Flags → Byte × Flags} {o : Operand}
    (hf : ∀ v c, RegistersKept m o c { c with p := (f v c.p).2 }) (t : Timing) (s : State) :
    RegistersKept m o s.cpu (modifyOp f o t s).cpu := by
  by_cases ho : o = .accumulator
  · subst ho
    rw [modifyOp_accumulator_cpu]
    exact ((hf s.cpu.a (accountFor t false s.cpu)).of_accountFor t false).setA_accumulator _
  · rw [modifyOp_memory_cpu f o t s ho]
    exact (hf _ (accountFor t (resolve o s).1.crossed s.cpu)).of_accountFor t _

theorem branchIf_registersKept (m : Mnemonic) (cond : Flags → Bool) (o : Operand) (t : Timing) (s : State) :
    RegistersKept m o s.cpu (branchIf cond o t s).cpu := by
  rw [branchIf_cpu]
  simp [RegistersKept]

theorem enterVector_registersKept (o : Operand) (vector : Word) (b4 : Bool) (s : State) :
    RegistersKept .brk o s.cpu (enterVector vector b4 s).cpu := by
  rw [enterVector_cpu]
  simp [RegistersKept]

/-- Every operation keeps the registers and flags that the rules of its mnemonic do not write: by the shape the
operation is written in. -/
theorem operationOf_registersKept (m : Mnemonic) (o : Operand) (t : Timing) (s : State) :
    RegistersKept m o s.cpu (operationOf m o t s).cpu := by
  cases m
  case lda | ldx | ldy | adc | sbc | cmp | cpx | cpy | and | ora | eor | bit =>
    refine readOp_registersKept (fun v c => ?_) t s
    simp [RegistersKept, adcCpu, sbcCpu, compareFlags, bitFlags]
  case inc | dec | asl | lsr | rol | ror =>
    refine modifyOp_registersKept (fun v c => ?_) t s
    simp [RegistersKept, incByte, decByte, aslByte, lsrByte, rolByte, rorByte]
  case tax | tay | txa | tya | tsx | txs | inx | iny | dex | dey | clc | sec | cli | sei | clv | cld | sed | nop =>
    refine registerOp_registersKept (fun c => ?_) t s
    simp [RegistersKept]
  case bcc | bcs | beq | bne | bmi | bpl | bvc | bvs => exact branchIf_registersKept _ _ o t s
  case sta | stx | sty => simp [RegistersKept, operationOf, opSta, opStx, opSty]
  case jmp | undoc => simp [RegistersKept, operationOf, opJmp, opUndoc]
  case pha | php | jsr => simp [RegistersKept, operationOf, opPha, opPhp, opJsr]
  case pla | plp | rts | rti => simp [RegistersKept, operationOf, opPla, opPlp, opRts, opRti, returnFromInterrupt]
  case brk => exact enterVector_registersKept o _ _ (prepare .implied t s).2

/-- Settles O25: every instruction is its mnemonic's operation (`exec_eq`), which keeps the frame. -/
theorem registerFrame : Obligations.RegisterFrame := by
  intro i s t h
  rw [exec_eq] at h
  obtain rfl := next_inj h
  exact operationOf_registersKept i.mnemonic i.operand i.timing s

end Sys2Proof.Machine
end

section
/-! PROOFS. The memory family: the invariant along every step, the memory frames of all 256 instructions, one bus
access, the configuration of the bus, the console's address map, OAM DMA, the collaborators' ports, and the bytes a step
reads. -/

namespace Sys2Proof.Machine

/-! ### The invariant along a step -/

/-- Every operation keeps the invariant: by the shape the operation is written in. -/
theorem operationOf_inv (m : Mnemonic) (o : Operand) (t : Timing) {s : State} (h : s.Inv) :
    (operationOf m o t s).Inv := by
  have himplied := prepare_inv .implied t s h
  cases m
  case lda | ldx | ldy | adc | sbc | cmp | cpx | cpy | and | ora | eor | bit => exact readOp_inv _ o t s h
  case sta | stx | sty => exact storeOp_inv _ o t s h
  case inc | dec | asl | lsr | rol | ror => exact modifyOp_inv _ o t s h
  case tax | tay | txa | tya | tsx | txs | inx | iny | dex | dey | clc | sec | cli | sei | clv | cld | sed | nop =>
    exact registerOp_inv _ t s h
  case bcc | bcs | beq | bne | bmi | bpl | bvc | bvs => exact branchIf_inv _ o t s h
  case jmp | undoc => exact prepare_inv o t s h
  case jsr => exact push16_inv _ _ (prepare_inv o t s h)
  case pha | php => exact push_inv _ _ himplied
  case pla | plp => exact pull_inv _ himplied
  case rts => exact pull16_inv _ himplied
  case brk => exact enterVector_inv _ _ _ himplied
  case rti => exact returnFromInterrupt_inv _ himplied

theorem exec_inv {i : Instr} {s t : State} (h : s.Inv) (he : exec i s = .next t) : t.Inv := by
  rw [exec_eq] at he
  exact next_inj he ▸ operationOf_inv i.mnemonic i.operand i.timing h

theorem sampleInterrupts_inv {s : State} (h : s.Inv) : (sampleInterrupts s).Inv := by
  unfold sampleInterrupts
  split
  · exact interruptEntry_inv _ _ h
  split
  · exact interruptEntry_inv _ s h
  · exact h

theorem fetch_inv {s : State} (h : s.Inv) : (fetch s).2.Inv := by
  have hop := memRead_inv s.cpu.pc s h
  unfold fetch
  dsimp only
  split
  · exact hop
  · exact memRead_inv _ _ hop
  · exact memRead_inv _ _ (memRead_inv _ _ hop)

theorem executeInstruction_inv {s t : State} (h : s.Inv) (he : executeInstruction s = .next t) : t.Inv := by
  unfold executeInstruction at he
  split at he
  · exact exec_inv (fetch_inv (sampleInterrupts_inv h)) he
  · exact next_inj he ▸ h

/-- R320: a step is a call of `ExecuteInstruction()` and the other agents' catching up with its cycles. -/
theorem step_of_executeInstruction {s u : State} (h : executeInstruction s = .next u) :
    step s = .next (catchUp (u.cpu.cycles - s.cpu.cycles) u) := by
  rw [step, consoleStep, h]

/-- A step that answers is that of a call of `ExecuteInstruction()` that does. -/
theorem executeInstruction_of_step {s t : State} (h : step s = .next t) :
    ∃ u, executeInstruction s = .next u := by
  unfold step consoleStep at h
  split at h
  · exact ⟨_, ‹_›⟩
  · cases h
  · cases h

/-- Settles O60: the call of `ExecuteInstruction()` keeps the invariant, and so does the other agents' catching up. -/
theorem stepKeepsInvariant : Obligations.StepKeepsInvariant := by
  intro s t h hstep
  obtain ⟨u, hu⟩ := executeInstruction_of_step hstep
  rw [step_of_executeInstruction hu] at hstep
  exact next_inj hstep ▸ catchUp_inv _ u (executeInstruction_inv h hu)

/-! ### Memory frames -/

/-- An operation other than a store, a push, `JSR`, `BRK` and a read-modify-write on memory stores nothing: by the shape
the operation is written in. -/
theorem operationOf_backing {m : Mnemonic} {o : Operand} (t : Timing) (s : State)
    (hstore : m ∉ [.sta, .stx, .sty, .pha, .php, .jsr, .brk])
    (hmodify : m ∈ [.inc, .dec, .asl, .lsr, .rol, .ror] → o = .accumulator) :
    (operationOf m o t s).bus.backing = s.bus.backing := by
  cases m
  case sta | stx | sty | pha | php | jsr | brk => simp at hstore
  case lda | ldx | ldy | adc | sbc | cmp | cpx | cpy | and | ora | eor | bit => exact readOp_backing _ o t s
  case inc | dec | asl | lsr | rol | ror =>
    obtain rfl := hmodify (by simp)
    exact modifyOp_accumulator_backing _ t s
  case tax | tay | txa | tya | tsx | txs | inx | iny | dex | dey | clc | sec | cli | sei | clv | cld | sed | nop =>
    exact registerOp_backing _ t s
  case bcc | bcs | beq | bne | bmi | bpl | bvc | bvs => exact branchIf_backing _ o t s
  case jmp | undoc => exact prepare_backing o t s
  case pla | plp | rts | rti => simp [operationOf, opPla, opPlp, opRts, opRti, returnFromInterrupt]

/-- Settles O26: every instruction is its mnemonic's operation, and that stores nothing. -/
theorem noStoreFrame : Obligations.NoStoreFrame := by
  intro i s t h hstore hmodify a
  rw [exec_eq] at h
  obtain rfl := next_inj h
  rw [operationOf_backing _ _ hstore hmodify]

/-- A read does not change where a write would store. -/
@[simp] theorem storedAt_memRead (a b : Word) (s : State) : storedAt a (memRead b s).2 = storedAt a s := by
  rw [storedAt, (memRead_wiring b s).1, storedAt]

/-- Neither does reading an operand, whatever its mode. -/
@[simp] theorem storedAt_readOperand (a : Word) (o : Operand) (ea : Word) (s : State) :
    storedAt a (readOperand o ea s).2 = storedAt a s := by
  cases o with
  | immediate _ | accumulator => rfl
  | _ => exact storedAt_memRead a ea s

/-- A store changes no byte but the one at its effective address. -/
theorem storeOp_read_other (reg : Cpu → Byte) (o : Operand) (t : Timing) (s : State) {a : Nat}
    (h : storedAt (prepare o t s).1 (prepare o t s).2 ≠ some a) :
    (storeOp reg o t s).bus.backing.read a = s.bus.backing.read a := by
  rw [storeOp, memWrite_read_other _ _ _ _ h, prepare_backing]

/-- Nor does a read-modify-write instruction. -/
theorem modifyOp_read_other (f : Byte → Flags → Byte × Flags) (o : Operand) (t : Timing) (s : State) {a : Nat}
    (h : storedAt (prepare o t s).1 (prepare o t s).2 ≠ some a) :
    (modifyOp f o t s).bus.backing.read a = s.bus.backing.read a := by
  unfold modifyOp
  dsimp only
  split
  · rw [readOperand_backing, prepare_backing]
  · rw [memWrite_read_other _ _ _ _ (by rwa [storedAt_readOperand]), readOperand_backing, prepare_backing]

/-- A push changes no byte but the one at the address the stack pointer designates. -/
theorem push_read_unstored (v : Byte) (s : State) {a : Nat} (h : storedAt (stackSlot s.cpu.sp) s ≠ some a) :
    (push v s).bus.backing.read a = s.bus.backing.read a :=
  memWrite_read_other (stackSlot s.cpu.sp) v s a h

/-- A 16-bit push changes no byte but the ones of its two pushes. -/
theorem push16_read_unstored (w : Word) (s : State) {a : Nat} (hhi : storedAt (stackSlot s.cpu.sp) s ≠ some a)
    (hlo : storedAt (stackSlot (s.cpu.sp - 1)) (push (hiByte w) s) ≠ some a) :
    (push16 w s).bus.backing.read a = s.bus.backing.read a := by
  rw [push16, push_read_unstored _ _ (by rwa [push_cpu]), push_read_unstored _ _ hhi]

/-- Entering a vector changes no byte but the ones of its three pushes. -/
theorem enterVector_read_unstored (vector : Word) (b4 : Bool) (s : State) {a : Nat}
    (hhi : storedAt (stackSlot s.cpu.sp) s ≠ some a)
    (hlo : storedAt (stackSlot (s.cpu.sp - 1)) (push (hiByte s.cpu.pc) s) ≠ some a)
    (hp : storedAt (stackSlot (s.cpu.sp - 1 - 1)) (push16 s.cpu.pc s) ≠ some a) :
    (enterVector vector b4 s).bus.backing.read a = s.bus.backing.read a := by
  rw [enterVector, read16_backing]
  show (push _ (push16 s.cpu.pc s)).bus.backing.read a = _
  rw [push_read_unstored _ _ (by rwa [push16_cpu]), push16_read_unstored _ _ hhi hlo]

/-- R7: the high byte of a word as a number. -/
theorem hiByte_eq_ofNat (w : Word) : hiByte w = BitVec.ofNat 8 (w.toNat / 256) :=
  BitVec.eq_of_toNat_eq (by rw [hiByte_toNat, BitVec.toNat_ofNat]; omega)

/-- R7: the low byte of a word as a number. -/
theorem loByte_eq_ofNat (w : Word) : loByte w = BitVec.ofNat 8 (w.toNat % 256) :=
  BitVec.eq_of_toNat_eq (by rw [loByte_toNat, BitVec.toNat_ofNat]; omega)

/-- R118: every instruction's mnemonic has its operand's mode. -/
theorem instr_wellFormed (i : Instr) : i.wellFormed = true := by cases i <;> rfl

/-- An instruction whose mnemonic has no mode but the implied one has no operand. -/
theorem operand_implied {i : Instr} (h : i.mnemonic.modes = [.implied]) : i.operand = .implied := by
  have hmode := instr_wellFormed i
  rw [Instr.wellFormed, Mnemonic.allows, h] at hmode
  cases ho : i.operand with
  | implied => rfl
  | _ => rw [ho] at hmode; cases hmode

/-- Settles O27: each clause is the frame of the shape its instructions are written in. -/
theorem storeFrame : Obligations.StoreFrame := by
  intro i s t h
  rw [exec_eq] at h
  obtain rfl := next_inj h
  simp only [← hiByte_eq_ofNat, ← loByte_eq_ofNat, storedAt_memRead, List.mem_cons, List.not_mem_nil, or_false]
  have hsp (o : Operand) : (prepare o i.timing s).2.cpu.sp = s.cpu.sp := by rw [prepare_cpu, accountFor_sp]
  refine ⟨fun hm a ha => ?_, fun hm _ a ha => ?_, fun hm a ha => ?_, fun hm a h1 h2 => ?_, fun hm a h1 h2 h3 => ?_⟩
  · obtain hm | hm | hm := hm <;> (rw [hm]; exact storeOp_read_other _ _ _ _ ha)
  · obtain hm | hm | hm | hm | hm | hm := hm <;> (rw [hm]; exact modifyOp_read_other _ _ _ _ ha)
  · rw [operand_implied (by obtain hm | hm := hm <;> rw [hm] <;> rfl), ← hsp .implied] at ha
    rw [← prepare_backing .implied i.timing s]
    obtain hm | hm := hm <;> (rw [hm]; exact push_read_unstored _ _ ha)
  · rw [← hsp i.operand] at h1 h2
    rw [← prepare_backing i.operand i.timing s, hm]
    exact push16_read_unstored _ _ h1 h2
  · rw [operand_implied (by rw [hm]; rfl), ← hsp .implied] at h1 h2 h3
    rw [← prepare_backing .implied i.timing s, hm]
    exact enterVector_read_unstored _ _ _ h1 h2 h3

/-! ### One bus access -/

/-- Settles O28: a slot of the backing array reads and stores one byte of it and does nothing else. -/
theorem ramAccess : Obligations.RamAccess := by
  refine fun s a k => ⟨memRead_ram, fun v h => ?_⟩
  rw [memWrite_ram v h]
  exact ⟨rfl, by rw [storedAt, h], fun hw => ⟨Memory.write_wf _ _ _ hw, Memory.read_write_eq _ _ _ hw⟩,
    fun j hj => Memory.read_write_ne _ _ _ _ hj.symm⟩

/-! ### The configuration of the bus -/

/-- The handler of a slot after a span was put in front. -/
theorem slotHandler_cons (sp : Span) (slots : List Span) (a : Nat) :
    slotHandler (sp :: slots) a = if sp.first ≤ a ∧ a ≤ sp.last then sp.handler else slotHandler slots a := rfl

/-- The handler of a slot after a span of one address was put in front. -/
theorem slotHandler_cons_single (a : Nat) (h : Handler) (slots : List Span) (x : Nat) :
    slotHandler (⟨a, a, h⟩ :: slots) x = if x = a then h else slotHandler slots x := by
  rw [slotHandler_cons]
  exact if_congr (by dsimp only; omega) rfl rfl

/-- R65: the slots after a mirroring call that succeeds. Its segment is not empty, and the addresses of the range above
it, and no others, redirect. -/
theorem configureAddressMirroring_slots {base len range : Nat} {s t : State}
    (h : configureAddressMirroring base len range s = .next t) :
    0 < len ∧ ∀ a : Nat,
      slotHandler t.bus.readSlots a =
        (if base + len ≤ a ∧ a < base + range then .redirect base len else slotHandler s.bus.readSlots a) ∧
      slotHandler t.bus.writeSlots a =
        (if base + len ≤ a ∧ a < base + range then .redirect base len else slotHandler s.bus.writeSlots a) := by
  unfold configureAddressMirroring at h
  split at h
  · cases h
  next hok =>
  refine ⟨by omega, fun a => ?_⟩
  split at h
  next hempty =>
    obtain rfl := next_inj h
    have hout : ¬(base + len ≤ a ∧ a < base + range) := by omega
    simp only [if_neg hout, and_self]
  next hrange =>
    obtain rfl := next_inj h
    have hin : (base + len ≤ a ∧ a ≤ base + range - 1) ↔ (base + len ≤ a ∧ a < base + range) := by omega
    simp only [slotHandler_cons, hin, and_self]

/-- R65: a canonical address lies in the canonical segment. -/
theorem canonicalAddress_lt_segment {base len : Nat} (hlen : 0 < len) (a : Nat) :
    canonicalAddress base len a < base + len :=
  Nat.add_lt_add_left (Nat.mod_lt _ hlen) base

/-- Settles O44: the canonical addresses lie below the addresses that redirect. -/
theorem mirroringRedirects : Obligations.MirroringRedirects := by
  intro base len range s t h a
  obtain ⟨hlen, hslots⟩ := configureAddressMirroring_slots h
  have hkeep (x : Nat) (hx : x < base + len ∨ base + range ≤ x) :
      slotHandler t.bus.readSlots x = slotHandler s.bus.readSlots x ∧
      slotHandler t.bus.writeSlots x = slotHandler s.bus.writeSlots x := by
    have hout : ¬(base + len ≤ x ∧ x < base + range) := by omega
    simpa only [if_neg hout] using hslots x
  refine ⟨fun hlo hhi => ?_, hkeep a⟩
  obtain ⟨hread, hwrite⟩ := hslots a
  rw [if_pos ⟨hlo, hhi⟩] at hread hwrite
  exact ⟨hread, hwrite, rfl, hkeep _ (.inl (canonicalAddress_lt_segment hlen a))⟩

/-- Settles O47: each call puts its span in front of the slots it names. -/
theorem busConfiguration : Obligations.BusConfiguration := fun _ _ _ _ _ _ _ =>
  ⟨slotHandler_cons_single _ _ _ _, rfl, slotHandler_cons_single _ _ _ _, rfl, slotHandler_cons _ _ _,
    slotHandler_cons _ _ _, Memory.read_nil _, rfl, rfl, fun _ _ _ hrange => if_pos (.inr (.inl hrange))⟩

/-! ### The console's address map -/

/-- The console's wiring, with the handler of `$4017`, in which alone reads and writes differ (R61, R81). -/
def consoleSlots (last : Handler) : List Span :=
  [⟨0x0800, 0x1FFF, .redirect 0x0000 0x0800⟩, ⟨0x2008, 0x3FFF, .redirect 0x2000 0x0008⟩, ⟨0x2000, 0x2007, .ppuPort⟩,
   ⟨0x4000, 0x4013, .apu⟩, ⟨0x4014, 0x4014, .oamDma⟩, ⟨0x4015, 0x4015, .apu⟩, ⟨0x4016, 0x4016, .controller false⟩,
   ⟨0x4017, 0x4017, last⟩]

theorem consoleReadSlots_eq : consoleReadSlots = consoleSlots (.controller true) := rfl

theorem consoleWriteSlots_eq : consoleWriteSlots = consoleSlots .apu := rfl

/-- A slot that does not redirect ends the way. -/
theorem followRedirects_self {slots : List Span} {a : Nat} {h : Handler} (fuel : Nat) (hs : slotHandler slots a = h)
    (hr : ∀ b l, h ≠ .redirect b l) : followRedirects slots (fuel + 1) a = (a, h) := by
  unfold followRedirects
  split
  · next b l hh => exact absurd (hs.symm.trans hh) (hr b l)
  · rw [hs]

/-- A slot that redirects hands on to the canonical address. -/
theorem followRedirects_redirect {slots : List Span} {a base len : Nat} (fuel : Nat)
    (hs : slotHandler slots a = .redirect base len) :
    followRedirects slots (fuel + 1) a = followRedirects slots fuel (canonicalAddress base len a) := by
  rw [followRedirects, hs]

/-- An address above 0 whose slot redirects to one that does not is answered there. -/
theorem targetOf_redirect {slots : List Span} {a : Word} {base len : Nat} {h : Handler} (ha : 0 < a.toNat)
    (hs : slotHandler slots a.toNat = .redirect base len)
    (hc : slotHandler slots (canonicalAddress base len a.toNat) = h) (hr : ∀ b l, h ≠ .redirect b l) :
    targetOf slots a = (canonicalAddress base len a.toNat, h) := by
  obtain ⟨n, hn⟩ := Nat.exists_eq_succ_of_ne_zero ha.ne'
  have hfuel : followRedirects slots a.toNat (canonicalAddress base len a.toNat) =
      (canonicalAddress base len a.toNat, h) := by
    rw [hn] at hc ⊢
    exact followRedirects_self n hc hr
  rw [targetOf, followRedirects_redirect _ hs, hfuel]

section
variable {last : Handler} {a : Word}

/-- R61: the slots of the internal RAM, and those above the ports, keep the default handler. -/
theorem slotHandler_console_ram {n : Nat} (h : n < 0x0800 ∨ 0x4018 ≤ n) :
    slotHandler (consoleSlots last) n = .ram := by
  simp (disch := omega) only [consoleSlots, slotHandler, if_neg]

/-- R61: the mirror slots of the internal RAM. -/
theorem slotHandler_console_ramMirror {n : Nat} (hlo : 0x0800 ≤ n) (hhi : n < 0x2000) :
    slotHandler (consoleSlots last) n = .redirect 0x0000 0x0800 :=
  if_pos ⟨hlo, by dsimp only; omega⟩

/-- R61: the slots of the picture processor's ports. -/
theorem slotHandler_console_ppuPort {n : Nat} (hlo : 0x2000 ≤ n) (hhi : n < 0x2008) :
    slotHandler (consoleSlots last) n = .ppuPort := by
  simp (disch := omega) only [consoleSlots, slotHandler, if_pos, if_neg]

/-- R61: the mirror slots of the picture processor's ports. -/
theorem slotHandler_console_ppuMirror {n : Nat} (hlo : 0x2008 ≤ n) (hhi : n < 0x4000) :
    slotHandler (consoleSlots last) n = .redirect 0x2000 0x0008 := by
  simp (disch := omega) only [consoleSlots, slotHandler, if_pos, if_neg]

/-- R61: the first slots of the audio unit's registers. -/
theorem slotHandler_console_apu {n : Nat} (hlo : 0x4000 ≤ n) (hhi : n ≤ 0x4013) :
    slotHandler (consoleSlots last) n = .apu := by
  simp (disch := omega) only [consoleSlots, slotHandler, if_pos, if_neg]

/-- R61: internal RAM, every `$0800` below `$2000`. -/
theorem targetOf_console_ram (h : a.toNat < 0x2000) :
    targetOf (consoleSlots last) a = (a.toNat % 0x800, .ram) := by
  by_cases hlow : a.toNat < 0x800
  · rw [Nat.mod_eq_of_lt hlow]
    exact targetOf_self (slotHandler_console_ram (.inl hlow)) (by simp)
  · have hc : canonicalAddress 0x0000 0x0800 a.toNat = a.toNat % 0x800 := by simp [canonicalAddress]
    rw [← hc]
    exact targetOf_redirect (by omega) (slotHandler_console_ramMirror (by omega) h)
      (slotHandler_console_ram (by omega)) (by simp)

/-- R61: the picture processor's ports, every 8 bytes from `$2000` to `$3FFF`. -/
theorem targetOf_console_ppu (hlo : 0x2000 ≤ a.toNat) (hhi : a.toNat < 0x4000) :
    targetOf (consoleSlots last) a = (0x2000 + a.toNat % 8, .ppuPort) := by
  by_cases hfirst : a.toNat < 0x2008
  · have hself : 0x2000 + a.toNat % 8 = a.toNat := by omega
    rw [hself]
    exact targetOf_self (slotHandler_console_ppuPort hlo hfirst) (by simp)
  · have hc : canonicalAddress 0x2000 0x0008 a.toNat = 0x2000 + a.toNat % 8 := by unfold canonicalAddress; omega
    rw [← hc]
    exact targetOf_redirect (by omega) (slotHandler_console_ppuMirror (by omega) hhi)
      (slotHandler_console_ppuPort (by omega) (by omega)) (by simp)

end

/-- Settles O46: the mirrored ranges, then the slots from `$4000` on, which answer themselves. -/
theorem consoleAddressMap : Obligations.ConsoleAddressMap := by
  intro a
  rw [consoleReadSlots_eq, consoleWriteSlots_eq]
  have hself (p q : Handler) (hp : slotHandler (consoleSlots (.controller true)) a.toNat = p)
      (hq : slotHandler (consoleSlots .apu) a.toNat = q) (hpr : ∀ b l, p ≠ .redirect b l := by simp)
      (hqr : ∀ b l, q ≠ .redirect b l := by simp) :
      targetOf (consoleSlots (.controller true)) a = (a.toNat, p) ∧ targetOf (consoleSlots .apu) a = (a.toNat, q) :=
    ⟨targetOf_self hp hpr, targetOf_self hq hqr⟩
  refine ⟨fun h => ⟨targetOf_console_ram h, targetOf_console_ram h⟩,
    fun hlo hhi => ⟨targetOf_console_ppu hlo hhi, targetOf_console_ppu hlo hhi⟩,
    fun hlo hhi => hself .apu .apu (slotHandler_console_apu hlo hhi) (slotHandler_console_apu hlo hhi),
    fun h => hself .oamDma .oamDma ?_ ?_,
    fun h => hself .apu .apu ?_ ?_,
    fun h => hself (.controller false) (.controller false) ?_ ?_,
    fun h => hself (.controller true) .apu ?_ ?_,
    fun h => hself .ram .ram (slotHandler_console_ram (.inr h)) (slotHandler_console_ram (.inr h))⟩
  all_goals rw [h]; rfl

/-- Settles O45: the write stores, and the read gives, the byte at the common canonical address. -/
theorem ramAliasesAgree : Obligations.RamAliasesAgree := by
  intro s a b v hread hwrite hw ha hb hab
  have hstore : memWrite a v s = { s with bus := { s.bus with
      backing := s.bus.backing.write (a.toNat % 0x800) v } } :=
    memWrite_ram v (by rw [hwrite, consoleWriteSlots_eq, targetOf_console_ram ha])
  have hload : targetOf (memWrite a v s).bus.readSlots b = (a.toNat % 0x800, .ram) := by
    rw [hstore]
    dsimp only
    rw [hread, consoleReadSlots_eq, targetOf_console_ram hb, hab]
  rw [memRead_ram hload, hstore]
  exact Memory.read_write_eq _ _ _ hw

/-! ### OAM DMA -/

/-- Writes to other addresses leave a byte alone. -/
theorem Memory.read_foldl_write_other {α : Type} (addr : α → Nat) (val : α → Byte) (x : Nat) :
    ∀ (l : List α) (m : Memory), x ∉ l.map addr →
      (l.foldl (fun m i => m.write (addr i) (val i)) m).read x = m.read x
  | [], _, _ => rfl
  | i :: rest, m, h => by
    obtain ⟨hi, hrest⟩ := not_or.mp (List.mem_cons.not.mp h)
    rw [List.foldl_cons, Memory.read_foldl_write_other addr val x rest _ hrest,
      Memory.read_write_ne _ _ _ _ (Ne.symm hi)]

/-- Of writes to pairwise different addresses each is read back. -/
theorem Memory.read_foldl_write {α : Type} (addr : α → Nat) (val : α → Byte) {j : α} :
    ∀ (l : List α) (m : Memory), m.wf → (l.map addr).Nodup → j ∈ l →
      (l.foldl (fun m i => m.write (addr i) (val i)) m).read (addr j) = val j
  | [], _, _, _, hj => absurd hj List.not_mem_nil
  | i :: rest, m, hw, hnodup, hj => by
    obtain ⟨hfresh, hrest⟩ := List.nodup_cons.mp hnodup
    rw [List.foldl_cons]
    rcases List.mem_cons.mp hj with rfl | hj
    · rw [Memory.read_foldl_write_other addr val _ rest _ hfresh, Memory.read_write_eq _ _ _ hw]
    · exact Memory.read_foldl_write addr val rest _ (Memory.write_wf _ _ _ hw) hrest hj

/-- The byte of the backing array behind address `i` of page `v`. -/
def pageByte (v : Byte) (s : State) (i : Nat) : Byte :=
  s.bus.backing.read (targetOf s.bus.readSlots (wordOfBytes (BitVec.ofNat 8 i) v)).1

theorem pageByte_toNat (v : Byte) (s : State) (i : Byte) :
    pageByte v s i.toNat = s.bus.backing.read (targetOf s.bus.readSlots (wordOfBytes i v)).1 := by
  rw [pageByte, BitVec.ofNat_toNat, BitVec.setWidth_eq]

/-- The machine with another OAM. -/
def State.setOam (m : Memory) (s : State) : State := { s with ppu := { s.ppu with oam := m } }

/-- R79: from a page in RAM, a byte of the DMA is one write to the OAM. -/
theorem oamDmaByte_ram {s : State} {v : Byte} (start i : Nat)
    (h : ∀ i : Byte, (targetOf s.bus.readSlots (wordOfBytes i v)).2 = .ram) :
    oamDmaByte v start s i = s.setOam (s.ppu.oam.write ((start + i) % 256) (pageByte v s i)) := by
  rw [oamDmaByte, memRead_ram (Prod.ext rfl (h (BitVec.ofNat 8 i)))]
  rfl

/-- R79: from a page in RAM, the bytes of the DMA change the OAM only. -/
theorem foldl_oamDmaByte_ram {v : Byte} (start : Nat) : ∀ (l : List Nat) (s : State),
    (∀ i : Byte, (targetOf s.bus.readSlots (wordOfBytes i v)).2 = .ram) →
    l.foldl (oamDmaByte v start) s =
      s.setOam (l.foldl (fun m i => m.write ((start + i) % 256) (pageByte v s i)) s.ppu.oam)
  | [], _, _ => rfl
  | i :: rest, s, h => by
    rw [List.foldl_cons, oamDmaByte_ram start i h]
    exact foldl_oamDmaByte_ram start rest (State.setOam _ s) h

/-- R79: the OAM after a DMA from a page in RAM. -/
theorem oamDma_oam {s : State} {v : Byte} (h : ∀ i : Byte, (targetOf s.bus.readSlots (wordOfBytes i v)).2 = .ram) :
    (oamDma v s).ppu.oam = (List.range 256).foldl
      (fun m i => m.write ((s.ppu.oamAddr.toNat + i) % 256) (pageByte v s i)) s.ppu.oam := by
  unfold oamDma
  generalize List.range 256 = l
  rw [addStall_ppu, foldl_oamDmaByte_ram _ l s h]
  rfl

/-- R79: the bytes of the DMA go to different addresses of the OAM. -/
theorem nodup_oamAddresses (start : Nat) : ((List.range 256).map fun i => (start + i) % 256).Nodup := by
  refine List.Nodup.map_on (fun i hi j hj hij => ?_) List.nodup_range
  rw [List.mem_range] at hi hj
  omega

/-- R79, R316: the stall units of a DMA, whatever its source page holds. -/
theorem oamDma_stall (v : Byte) (s : State) :
    (oamDma v s).lines.stall = s.lines.stall + (513 + s.cpu.cycles % 2) := by
  have hbytes : ∀ l : List Nat,
      (l.foldl (oamDmaByte v s.ppu.oamAddr.toNat) s).lines.stall = s.lines.stall := fun l =>
    foldl_keeps (fun t => t.lines.stall = s.lines.stall) (oamDmaByte v s.ppu.oamAddr.toNat)
      (fun t i h => (memRead_stall (wordOfBytes (BitVec.ofNat 8 i) v) t).trans h) l s rfl
  rw [oamDma, addStall_lines, hbytes]
  rfl

/-- R54: the two spellings of a little-endian word. -/
theorem littleEndian_eq_wordOfBytes (lo hi : Byte) : littleEndian lo hi = wordOfBytes lo hi :=
  BitVec.eq_of_toNat_eq (by
    rw [littleEndian, ← wordOfBytes_toNat, BitVec.ofNat_toNat, BitVec.setWidth_eq])

/-- Settles O48: `oamDma_oam` and the reads after its writes for the copy, `oamDma_stall` for the stall. -/
theorem oamDmaCopy : Obligations.OamDmaCopy := by
  intro s v hport
  have hdma : memWrite 0x4014 v s = oamDma v s := by rw [memWrite, hport]; rfl
  simp only [hdma, littleEndian_eq_wordOfBytes]
  have hquiet := oamDma_quiet v s
  have hstall := oamDma_stall v s
  refine ⟨fun hram hw => ⟨fun i => ?_, by omega⟩, hquiet.cpu, hquiet.backing, by omega⟩
  rw [oamDma_oam hram, ← pageByte_toNat]
  exact Memory.read_foldl_write (fun i => (s.ppu.oamAddr.toNat + i) % 256) (pageByte v s) _ _ hw
    (nodup_oamAddresses _) (List.mem_range.mpr i.isLt)

/-! ### The collaborators' ports -/

/-- R81: a read of a controller port gives the device's next byte. -/
theorem memRead_controller {s : State} {a : Word} {k : Nat} {second : Bool} {b : Byte} {c : Controller}
    (hport : targetOf s.bus.readSlots a = (k, .controller second))
    (hnext : (if second then s.pad2 else s.pad1).next = some (b, c)) :
    memRead a s = (b, if second then { s with pad2 := c } else { s with pad1 := c }) := by
  rw [memRead, hport, readThrough, controllerRead, hnext]

/-- U11: a read of a controller port whose device has no byte to give is a free byte. -/
theorem memRead_controller_free {s : State} {a : Word} {k : Nat} {second : Bool}
    (hport : targetOf s.bus.readSlots a = (k, .controller second))
    (hnext : (if second then s.pad2 else s.pad1).next = none) : memRead a s = takeFreeByte s := by
  rw [memRead, hport, readThrough, controllerRead, hnext]

/-- R81: a serial device gives its next serial byte. -/
theorem Controller.next_serial {c : Controller} {b : Byte} {rest : List Byte} (hkind : c.isSerial = true)
    (hbytes : c.serial = b :: rest) : c.next = some (b, { c with serial := rest }) := by
  rw [Controller.next, hkind, hbytes]; rfl

/-- R81: any other device gives the next byte of its `PortValue`. -/
theorem Controller.next_portValue {c : Controller} {b : Byte} {rest : List Byte} (hkind : c.isSerial = false)
    (hbytes : c.portValues = b :: rest) : c.next = some (b, { c with portValues := rest }) := by
  rw [Controller.next, hkind, hbytes]; rfl

/-- U11: a device whose bytes the host has not supplied gives none. -/
theorem Controller.next_none {c : Controller} (h : (if c.isSerial then c.serial else c.portValues) = []) :
    c.next = none := by
  unfold Controller.next
  split at h <;> rename_i hkind <;> simp only [hkind, if_true, if_false, h, Bool.false_eq_true]

/-- R67, R322: the slots after a cartridge was loaded. -/
theorem loadCartridge_slots (m : Mapper) (s : State) (x : Nat) :
    slotHandler (loadCartridge m s).bus.readSlots x =
      (if 0x4100 ≤ x ∧ x ≤ 0xFFFF then .mapper else slotHandler s.bus.readSlots x) ∧
    slotHandler (loadCartridge m s).bus.writeSlots x =
      (if 0x4100 ≤ x ∧ x ≤ 0xFFFF then .mapper else slotHandler s.bus.writeSlots x) :=
  ⟨slotHandler_cons _ _ _, slotHandler_cons _ _ _⟩

/-- Settles O58: the reads are those of a device in each of its three situations, the write is the strobe, and
`loadCartridge_slots` says which slots the mapper takes. -/
theorem collaboratorPorts : Obligations.CollaboratorPorts := by
  refine fun s => ⟨fun b rest hport hkind hbytes => ?_, fun b rest hport hkind hbytes => ?_, fun hport hbytes => ?_,
    fun b rest hport hkind hbytes => ?_, fun b rest hport hkind hbytes => ?_, fun hport hbytes => ?_,
    fun v hport => ?_, fun m a => ⟨fun ha => ?_, fun ha => ?_⟩⟩
  · exact memRead_controller hport (Controller.next_serial hkind hbytes)
  · exact memRead_controller hport (Controller.next_portValue hkind hbytes)
  · exact memRead_controller_free hport (Controller.next_none hbytes)
  · exact memRead_controller hport (Controller.next_serial hkind hbytes)
  · exact memRead_controller hport (Controller.next_portValue hkind hbytes)
  · exact memRead_controller_free hport (Controller.next_none hbytes)
  · rw [memWrite, hport]; rfl
  · have hin : 0x4100 ≤ a.toNat ∧ a.toNat ≤ 0xFFFF := ⟨ha, by omega⟩
    obtain ⟨hread, hwrite⟩ := loadCartridge_slots m s a.toNat
    rw [if_pos hin] at hread hwrite
    exact ⟨targetOf_self hread (by simp), targetOf_self hwrite (by simp)⟩
  · have hout : ¬(0x4100 ≤ a.toNat ∧ a.toNat ≤ 0xFFFF) := fun h => absurd h.1 (Nat.not_le.mpr ha)
    have hslots := loadCartridge_slots m s a.toNat
    rwa [if_neg hout, if_neg hout] at hslots

/-! ### The bytes a step reads -/

/-- R91: no mode has more than two operand bytes. -/
theorem operandBytes_le_two (op : Byte) : operandBytes op ≤ 2 := by
  unfold operandBytes
  cases (opcodeRow op).mode <;> decide

/-- R59: where the opcode and exactly its operand bytes, read at `PC`, decode, the fetch gives the decoded instruction and
the state after those reads. -/
theorem fetch_eq_of_readBytes {s : State} {op : Byte} {operand rest : List Byte} {i : Instr}
    (hbytes : (readBytes (1 + operandBytes op) s.cpu.pc s).1 = op :: operand)
    (hdecode : decode (op :: operand) = .ok (i, rest)) :
    fetch s = (i, (readBytes (1 + operandBytes op) s.cpu.pc s).2) := by
  have hn := operandBytes_le_two op
  have hop : (memRead s.cpu.pc s).1 = op := by
    rw [Nat.add_comm] at hbytes
    exact (List.cons.inj hbytes).1
  obtain h0 | h1 | h2 : operandBytes op = 0 ∨ operandBytes op = 1 ∨ operandBytes op = 2 := by omega
  · simp only [decode, h0, Except.ok.injEq, Prod.mk.injEq] at hdecode
    simp only [fetch, hop, h0, hdecode.1, readBytes]
  · obtain rfl : [(memRead (s.cpu.pc + 1) (memRead s.cpu.pc s).2).1] = operand := by
      rw [h1] at hbytes
      exact (List.cons.inj hbytes).2
    simp only [decode, h1, Except.ok.injEq, Prod.mk.injEq] at hdecode
    simp only [fetch, hop, h1, hdecode.1, readBytes]
  · have hpc : s.cpu.pc + 1 + 1 = s.cpu.pc + 2 := by bv_omega
    obtain rfl : [(memRead (s.cpu.pc + 1) (memRead s.cpu.pc s).2).1,
        (memRead (s.cpu.pc + 2) (memRead (s.cpu.pc + 1) (memRead s.cpu.pc s).2).2).1] = operand := by
      rw [h2] at hbytes
      rw [← hpc]
      exact (List.cons.inj hbytes).2
    simp only [decode, h2, Except.ok.injEq, Prod.mk.injEq] at hdecode
    simp only [fetch, hop, h2, hdecode.1, readBytes, hpc]

/-- Settles O36: the call fetches `i`, and a step is the call and the other agents' catching up. -/
theorem stepRunsDecodedInstruction : Obligations.StepRunsDecodedInstruction := by
  intro s op operand rest i hstall b r hr hdec
  rw [hr] at hdec
  rw [exec_eq]
  refine step_of_executeInstruction ?_
  rw [executeInstruction, if_pos hstall, fetch_eq_of_readBytes hr hdec, exec_eq]

end Sys2Proof.Machine
end

section
/-! PROOFS. The encoding family: the opcode table and the decoder, decoding and encoding back and forth, the effective
addresses with the accounting, and the assembler's branch offset. -/

namespace Sys2Proof.Machine

open Sys2Proof.Laws

/-! ### The opcode table and the decoder -/

/-- Every instruction agrees with its row of the opcode table; with the opcode written out, each field computes. -/
theorem instr_tableRow (i : Instr) : TableRow.Statement i := by
  unfold TableRow.Statement
  cases i <;> (dsimp only [Instr.opcode, Instr.operand]; exact ⟨rfl, rfl, instr_wellFormed _, rfl⟩)

/-- R91, R108: the table is indexed by opcode. -/
theorem opcodeTable_eq_map : opcodeTable = (List.range 256).map fun n => opcodeRow (BitVec.ofNat 8 n) := by
  decide +kernel

/-- What holds of the 256 numerals holds of every byte. -/
theorem forall_byte_of_forall_lt {P : Byte → Prop} (h : ∀ n < 256, P (BitVec.ofNat 8 n)) (op : Byte) : P op := by
  have hop := h op.toNat op.isLt
  rwa [BitVec.ofNat_toNat, BitVec.setWidth_eq] at hop

/-- R90, R91: the bytes that the operand stands as after opcode `op`, when its byte is `b` and its word is `w`. -/
def operandField (op b : Byte) (w : Word) : List Byte :=
  match operandBytes op with
  | 0 => []
  | 1 => [b]
  | _ => [loByte w, hiByte w]

/-- R91, R105: the decoder's matrix gives at every opcode an instruction of that opcode with the operand it was given. -/
theorem instrAt_opcode_and_bytes (op b : Byte) (w : Word) :
    (instrAt op b w).opcode = op ∧ (instrAt op b w).operand.bytes = operandField op b w := by
  revert op
  refine forall_byte_of_forall_lt fun n hn => ?_
  interval_cases n <;> exact ⟨rfl, rfl⟩

/-- Settles O39: `opcodeTable_eq_map`, then `instr_tableRow` and `instrAt_opcode_and_bytes`; a row's own opcode is that of
the instruction the decoder gives for it. -/
theorem instructionsMatchTable : Obligations.InstructionsMatchTable := by
  refine ⟨⟨?_, fun op => ⟨?_, ?_⟩⟩, fun i => ?_, fun op b w => (instrAt_opcode_and_bytes op b w).1⟩
  · rw [opcodeTable_eq_map, List.length_map, List.length_range]
  · rw [opcodeTable_eq_map, List.getElem?_map, List.getElem?_range op.isLt, Option.map_some, BitVec.ofNat_toNat,
      BitVec.setWidth_eq]
  · obtain ⟨hrow, -⟩ := instr_tableRow (instrAt op 0 0)
    rw [(instrAt_opcode_and_bytes op 0 0).1] at hrow
    rw [hrow]
  · obtain ⟨hrow, hlength, -⟩ := instr_tableRow i
    exact ⟨hrow, hlength⟩

/-! ### Decoding and encoding -/

/-- The number of an operand's bytes is fixed by its mode. -/
theorem operand_length_bytes (o : Operand) : o.bytes.length = o.mode.operandBytes := by cases o <;> rfl

/-- R59, R90: the decoder reads exactly the operand's bytes. -/
theorem operandBytes_opcode (i : Instr) : operandBytes i.opcode = i.operand.bytes.length := by
  obtain ⟨hrow, -⟩ := instr_tableRow i
  rw [operandBytes, hrow, operand_length_bytes]

/-- R90, R115: an instruction is its opcode and its operand's bytes long, `BRK` one byte more. -/
theorem size_eq_bytes (i : Instr) :
    i.timing.size = 1 + i.operand.bytes.length + (if i.mnemonic = .brk then 1 else 0) := by
  obtain ⟨-, hlength, -⟩ := instr_tableRow i
  rw [← hlength, encode]
  split <;> simp <;> omega

/-- R91: the decoder at an opcode and as many operand bytes as it takes. Where it takes none, it skips the padding that
the opcode's row counts. -/
theorem decode_operand {op : Byte} {o : Operand} (h : operandBytes op = o.bytes.length) (tail : List Byte) :
    decode (op :: (o.bytes ++ tail)) = .ok (TableRow.reassemble op o,
      if o.bytes = [] then tail.drop ((opcodeRow op).timing.size - 1) else tail) := by
  cases o with
  | implied | accumulator => simp only [decode, h]; rfl
  | immediate b | zeroPage b | zeroPageX b | zeroPageY b | indexedIndirect b | indirectIndexed b | relative b =>
    simp only [decode, h]; rfl
  | absolute w | absoluteX w | absoluteY w | indirect w =>
    simp only [decode, h, Operand.bytes]
    simp [wordOfBytes_lo_hi, TableRow.reassemble]

/-- R91, R115: the decoder at an instruction's opcode and operand bytes gives the instruction and what follows, without
`BRK`'s padding byte. -/
theorem decode_opcode_bytes (i : Instr) (tail : List Byte) :
    decode (i.opcode :: (i.operand.bytes ++ tail)) = .ok (i, tail.drop (if i.mnemonic = .brk then 1 else 0)) := by
  obtain ⟨hrow, -, -, hself⟩ := instr_tableRow i
  have hbrk (hm : i.mnemonic = .brk) : i.operand = .implied := operand_implied (by rw [hm]; rfl)
  rw [decode_operand (operandBytes_opcode i), hself, hrow, size_eq_bytes]
  split
  case isTrue hnone => rw [hnone, List.length_nil, Nat.add_zero, Nat.add_sub_cancel_left]
  case isFalse hsome => rw [if_neg fun hm => hsome (by rw [hbrk hm]; rfl), List.drop_zero]

/-- R91: bytes that decode begin with the opcode and the operand bytes of an instruction. -/
theorem exists_instr_of_decode {bytes : List Byte} {r : Instr × List Byte} (h : decode bytes = .ok r) :
    ∃ (i : Instr) (tail : List Byte), bytes = i.opcode :: (i.operand.bytes ++ tail) := by
  cases bytes with
  | nil => cases h
  | cons op rest =>
    have hinstr (b : Byte) (w : Word) (tail : List Byte) (hrest : rest = operandField op b w ++ tail) :
        ∃ (i : Instr) (tail : List Byte), op :: rest = i.opcode :: (i.operand.bytes ++ tail) := by
      obtain ⟨hop, hbytes⟩ := instrAt_opcode_and_bytes op b w
      exact ⟨instrAt op b w, tail, by rw [hop, hbytes, hrest]⟩
    obtain h0 | h1 | h2 : operandBytes op = 0 ∨ operandBytes op = 1 ∨ operandBytes op = 2 := by
      have := operandBytes_le_two op
      omega
    · exact hinstr 0 0 rest (by simp only [operandField, h0, List.nil_append])
    · match rest with
      | [] => simp only [decode, h1] at h; cases h
      | b :: tail => exact hinstr b 0 tail (by simp only [operandField, h1, List.cons_append, List.nil_append])
    · match rest with
      | [] | [_] => simp only [decode, h2] at h; cases h
      | lo :: hi :: tail =>
        exact hinstr 0 (wordOfBytes lo hi) tail (by
          simp only [operandField, h2, loByte_wordOfBytes, hiByte_wordOfBytes, List.cons_append, List.nil_append])

/-- Settles O40: after the operand bytes the decoder drops exactly the padding that the encoder wrote. -/
theorem decodeEncodeAllInstructions : Obligations.DecodeEncodeAllInstructions := by
  intro i rest
  rw [encode, List.cons_append, List.cons_append, List.append_assoc, decode_opcode_bytes]
  split <;> rfl

/-- Settles O41: the bytes are an instruction's opcode and operand bytes with a tail, and decoding those gives that
instruction, with the whole tail unless it is `BRK`. -/
theorem encodeDecodeBytes : Obligations.EncodeDecodeBytes := by
  intro bytes rest i h hbrk
  obtain ⟨j, tail, rfl⟩ := exists_instr_of_decode h
  rw [decode_opcode_bytes] at h
  obtain ⟨rfl, rfl⟩ := Prod.mk.inj (Except.ok.inj h)
  rw [encode, if_neg hbrk, if_neg hbrk, List.append_nil, List.drop_zero, List.cons_append]

/-- Settles O42: each example computes. -/
theorem decodeKnownWords : Obligations.DecodeKnownWords :=
  ⟨rfl, rfl, rfl, rfl, rfl, rfl, rfl, rfl, rfl, rfl, rfl, rfl, rfl⟩

/-! ### Effective addresses and accounting -/

/-- R9: a byte extended by zeros, as a number. -/
theorem zext16_eq_ofNat (b : Byte) : zext16 b = BitVec.ofNat 16 b.toNat := by
  rw [zext16, BitVec.ofNat_toNat]

/-- R9: a byte extended by its sign, as a number. -/
theorem sext16_eq_ofNat (b : Byte) :
    sext16 b = BitVec.ofNat 16 (if b.toNat < 128 then b.toNat else b.toNat + 0xFF00) := by
  have hb := b.isLt
  have hvalue : (sext16 b).toNat = b.toNat + (if 128 ≤ b.toNat then 0xFF00 else 0) := by
    rw [sext16, BitVec.toNat_signExtend, BitVec.toNat_setWidth_of_le (by decide), BitVec.msb_eq_decide]
    simp only [decide_eq_true_iff]
  apply BitVec.eq_of_toNat_eq
  rw [hvalue, BitVec.toNat_ofNat]
  by_cases h : b.toNat < 128
  · rw [if_pos h, if_neg (by omega)]; omega
  · rw [if_neg h, if_pos (by omega)]; omega

/-- R96, R97: an index added in the zero page wraps there. -/
theorem zext16_add_eq_ofNat (z index : Byte) : zext16 (z + index) = BitVec.ofNat 16 ((z.toNat + index.toNat) % 256) := by
  rw [zext16_eq_ofNat, BitVec.toNat_add]

/-- R99, R100, R112: an indexed address and its page crossing, as numbers. -/
theorem indexed_eq (base : Word) (index : Byte) :
    indexed base index = ⟨BitVec.ofNat 16 ((base.toNat + index.toNat) % 65536),
      decide (base.toNat / 256 ≠ (base.toNat + index.toNat) % 65536 / 256)⟩ := by
  have hindex : (zext16 index).toNat = index.toNat := BitVec.toNat_setWidth_of_le (by decide)
  have hsum : (base + zext16 index).toNat = (base.toNat + index.toNat) % 65536 := by rw [BitVec.toNat_add, hindex]
  have hcrossed : pagesDiffer base (base + zext16 index) =
      decide (base.toNat / 256 ≠ (base + zext16 index).toNat / 256) := by
    rw [Bool.eq_iff_iff, pagesDiffer_iff, decide_eq_true_iff]
  rw [indexed, hcrossed, ← hsum, BitVec.ofNat_toNat, BitVec.setWidth_eq]

/-- R55: a pointer's word, whose second byte stands in the page of the first. -/
theorem read16Page_eq (p : Word) (s : State) :
    read16Page p s =
      (let lo := memRead p s
       let hi := memRead (BitVec.ofNat 16 (256 * (p.toNat / 256) + (p.toNat % 256 + 1) % 256)) lo.2
       (littleEndian lo.1 hi.1, hi.2)) := by
  have hnext : nextInPage p = BitVec.ofNat 16 (256 * (p.toNat / 256) + (p.toNat % 256 + 1) % 256) := by
    rw [← nextInPage_toNat, BitVec.ofNat_toNat, BitVec.setWidth_eq]
  simp only [read16Page, hnext, littleEndian_eq_wordOfBytes]

/-- Settles O20: each mode's rule in `resolve`, with its wraps as numbers. -/
theorem effectiveAddresses : Obligations.EffectiveAddresses := by
  intro s z a pc x y page inPage pointer plus
  refine ⟨rfl, rfl, rfl, rfl, rfl, ?zeroPage, ?zeroPageX, ?zeroPageY, rfl, ?absoluteX, ?absoluteY, ?indirect,
    ?indexedIndirect, ?indirectIndexed, ?relative⟩
  case zeroPage => rw [resolve, zext16_eq_ofNat]
  case zeroPageX => rw [resolve, zext16_add_eq_ofNat]
  case zeroPageY => rw [resolve, zext16_add_eq_ofNat]
  case absoluteX => rw [resolve, indexed_eq]
  case absoluteY => rw [resolve, indexed_eq]
  case indirect => rw [resolve, read16Page_eq]
  case indexedIndirect => rw [resolve, read16Page_eq, zext16_add_eq_ofNat]
  case indirectIndexed => rw [resolve, read16Page_eq, zext16_eq_ofNat, indexed_eq]
  case relative => rw [resolve, sext16_eq_ofNat]

/-- Settles O21: the accounting keeps the other registers, and resolving an operand keeps them all. -/
theorem instructionAccounting : Obligations.InstructionAccounting := by
  intro o t s
  have hpc : s.cpu.pc + BitVec.ofNat 16 t.size = BitVec.ofNat 16 ((s.cpu.pc.toNat + t.size) % 65536) :=
    BitVec.eq_of_toNat_eq (by simp)
  simp only [prepare, resolve_cpu, accountFor, hpc, Bool.and_eq_true]

/-! ### The assembler's branch offset -/

/-- R9: an offset that fits a byte has the same value in a word. -/
theorem sext16_ofInt {k : Int} (hlo : -128 ≤ k) (hhi : k ≤ 127) : sext16 (BitVec.ofInt 8 k) = BitVec.ofInt 16 k := by
  rw [sext16, BitVec.signExtend, BitVec.toInt_ofInt, Int.bmod_eq_of_le (by omega) (by omega)]

/-- R117: an accepted offset is the distance from the instruction after the branch to the target. -/
theorem sext16_of_branchOffset_ok {a b : Word} {off : Byte} (h : branchOffset a b = .ok off) :
    sext16 off = b - (a + 2) := by
  rw [branchOffset] at h
  split at h
  case isTrue hrange =>
    obtain rfl := Except.ok.inj h
    rw [sext16_ofInt hrange.1 hrange.2, BitVec.ofInt_toInt]
  case isFalse => cases h

/-- R117: the range error. -/
theorem branchOffset_error_iff (a b : Word) : branchOffset a b = .error .branchOutOfRange ↔
    (b - (a + 2)).toInt < -128 ∨ 127 < (b - (a + 2)).toInt := by
  rw [branchOffset]
  split
  case isTrue hrange => exact iff_of_false (fun h => nomatch h) (by omega)
  case isFalse hrange => exact iff_of_true rfl (by omega)

/-- Settles O43: `sext16_of_branchOffset_ok` in the relative mode's rule, and `branchOffset_error_iff`. -/
theorem branchOffsetInverse : Obligations.BranchOffsetInverse := by
  refine fun a b s => ⟨fun off hoff hpc => ?_, branchOffset_error_iff a b⟩
  rw [resolve, hpc, sext16_of_branchOffset_ok hoff]
  exact add_sub_cancel (a + 2) b

end Sys2Proof.Machine
end

section
/-! PROOFS. The load and store family: the rows and results of `LDA`, `LDX`, `LDY`, `STA`, `STX` and `STY`. -/

namespace Sys2Proof.Machine

/-- R33: the flags after a result. -/
theorem setZN_eq_decide (v : Byte) (p : Flags) :
    setZN v p = { p with z := decide (v = 0), n := v.getLsbD 7 } := rfl

/-- R59 (5): a store writes the register as it stands before the instruction, where the accounting leaves it alone. -/
theorem storeOp_eq_memWrite {reg : Cpu → Byte} (hreg : ∀ t crossed c, reg (accountFor t crossed c) = reg c)
    (o : Operand) (t : Timing) (s : State) :
    storeOp reg o t s = memWrite (prepare o t s).1 (reg s.cpu) (prepare o t s).2 := by
  rw [storeOp, prepare_cpu, hreg]

/-- Settles O1: the rows compute, and each load is a `readOp` that sets its register and `setZN` of the operand. -/
theorem loadResults : Obligations.LoadResults := by
  refine ⟨by decide +kernel, by decide +kernel, by decide +kernel, fun i s => ⟨fun h => ?_, fun h => ?_, fun h => ?_⟩⟩
  · rw [exec_lda i s h, opLda, readOp, setZN_eq_decide]
  · rw [exec_ldx i s h, opLdx, readOp, setZN_eq_decide]
  · rw [exec_ldy i s h, opLdy, readOp, setZN_eq_decide]

/-- Settles O2: the rows compute, and each store is a `storeOp` of its register. -/
theorem storeResults : Obligations.StoreResults := by
  refine ⟨by decide +kernel, by decide +kernel, by decide +kernel, fun i s => ⟨fun h => ?_, fun h => ?_, fun h => ?_⟩⟩
  · rw [exec_sta i s h, opSta, storeOp_eq_memWrite accountFor_a]
  · rw [exec_stx i s h, opStx, storeOp_eq_memWrite accountFor_x]
  · rw [exec_sty i s h, opSty, storeOp_eq_memWrite accountFor_y]

end Sys2Proof.Machine
end

section
/-! PROOFS. The transfer and stack family: the register instructions, the pushes and the pulls. -/

namespace Sys2Proof.Machine

/-! ### The implied mode -/

/-- R92, R110: an instruction of the implied mode has nothing to resolve; `PC` and `cycles` pass it. -/
theorem prepare_implied (cycles : Nat) (s : State) :
    (prepare .implied ⟨1, cycles, false⟩ s).2 = { s with cpu := s.cpu.past 1 cycles } := rfl

/-- R110: a register instruction changes the registers behind it, and nothing else. -/
theorem registerOp_eq_past (f : Cpu → Cpu) (cycles : Nat) (s : State) :
    registerOp f ⟨1, cycles, false⟩ s = { s with cpu := f (s.cpu.past 1 cycles) } := by
  rw [registerOp, prepare_implied]

/-- Settles O3: the rows compute, and each instruction is a `registerOp` (`registerOp_eq_past`) whose `setZN` is the
statement's pair of flags (`setZN_eq_decide`); passing the instruction leaves the register it reads alone. -/
theorem registerInstructionResults : Obligations.RegisterInstructionResults := by
  refine ⟨by decide +kernel, by decide +kernel, by decide +kernel, by decide +kernel, by decide +kernel,
    by decide +kernel, by decide +kernel, by decide +kernel, by decide +kernel, by decide +kernel,
    fun s => ⟨?tax, ?tay, ?txa, ?tya, ?tsx, ?inx, ?iny, ?dex, ?dey, ?txs⟩⟩
  case tax | tay | txa | tya | tsx | inx | iny | dex | dey | txs =>
    simp only [exec_eq, Instr.mnemonic, Instr.timing, operationOf, opTax, opTay, opTxa, opTya, opTsx, opInx, opIny,
      opDex, opDey, opTxs, registerOp_eq_past, setZN_eq_decide]
    rfl

/-! ### Pushes and pulls -/

/-- R24: a push is one write at the address `SP` designates, then `SP` counts down. -/
theorem push_eq_memWrite (v : Byte) (s : State) :
    push v s = { memWrite (stackSlot s.cpu.sp) v s with cpu := { s.cpu with sp := s.cpu.sp - 1 } } := by
  rw [push, memWrite_cpu, stackAddress_eq_stackSlot]

/-- R25: a pull counts `SP` up, then is one read at the address it designates. -/
theorem pull_eq_memRead (s : State) :
    pull s = memRead (stackSlot (s.cpu.sp + 1)) { s with cpu := { s.cpu with sp := s.cpu.sp + 1 } } := by
  rw [pull, stackAddress_eq_stackSlot]

/-- R31: the status byte that `PHP` pushes, bits 4 and 5 set, as a number. -/
theorem packP_true_eq_ofNat (p : Flags) :
    packP true p = BitVec.ofNat 8 (p.c.toNat + 2 * p.z.toNat + 4 * p.i.toNat + 8 * p.d.toNat + 16 + 32
      + 64 * p.v.toNat + 128 * p.n.toNat) := by
  rw [packP, byteOfBits, Bool.toNat_true]
  congr 1
  omega

/-- Settles O4: the rows compute, and each instruction is a `push` after its accounting. -/
theorem pushResults : Obligations.PushResults := by
  refine ⟨by decide +kernel, by decide +kernel, fun s => ⟨?pha, ?php⟩⟩
  case pha => rw [exec_pha .pha s rfl, opPha, push_eq_memWrite, Instr.timing, prepare_implied]; rfl
  case php => rw [exec_php .php s rfl, opPhp, push_eq_memWrite, packP_true_eq_ofNat, Instr.timing, prepare_implied]; rfl

/-- Settles O5: the rows compute, and each instruction is a `pull` after its accounting, whose read leaves the
registers alone (`memRead_cpu`). -/
theorem pullResults : Obligations.PullResults := by
  refine ⟨by decide +kernel, by decide +kernel, fun s => ⟨?pla, ?plp⟩⟩
  case pla =>
    rw [exec_pla .pla s rfl, opPla, Instr.timing, prepare_implied, pull_eq_memRead, memRead_cpu, setZN_eq_decide]
    rfl
  case plp =>
    rw [exec_plp .plp s rfl, opPlp, Instr.timing, prepare_implied, pull_eq_memRead, memRead_cpu, unpackP]
    rfl

end Sys2Proof.Machine
end

section
/-! PROOFS. The arithmetic family: sums, differences, comparisons, and the increments and decrements of memory. -/

namespace Sys2Proof.Machine

/-! ### Results modulo 256 -/

/-- R7: a byte made of a number is the number modulo 256. -/
theorem ofNat8_mod (n : Nat) : BitVec.ofNat 8 (n % 256) = BitVec.ofNat 8 n :=
  BitVec.eq_of_toNat_eq (by rw [BitVec.toNat_ofNat, BitVec.toNat_ofNat, Nat.mod_mod])

/-- R7: a byte made of an integer is the integer modulo 256. -/
theorem ofNat8_toNat_emod (t : Int) : BitVec.ofNat 8 (t % 256).toNat = BitVec.ofInt 8 t :=
  BitVec.eq_of_toNat_eq (by rw [BitVec.toNat_ofNat, BitVec.toNat_ofInt]; omega)

/-- R7: numbers that differ by 256 make the same byte. -/
theorem ofInt8_eq_ofNat8_of_add_256 {t : Int} {n : Nat} (h : t + 256 = n) : BitVec.ofInt 8 t = BitVec.ofNat 8 n := by
  have hmod : (t % 256).toNat = n % 256 := by omega
  rw [← ofNat8_toNat_emod, hmod, ofNat8_mod]

/-- R33: a sum is zero when its number is a multiple of 256. -/
theorem ofNat8_eq_zero_iff (n : Nat) : (BitVec.ofNat 8 n : Byte) = 0 ↔ n % 256 = 0 := by
  rw [← BitVec.toNat_inj, BitVec.toNat_ofNat]
  rfl

/-- R33: a difference is zero when its number is a multiple of 256. -/
theorem ofInt8_eq_zero_iff (t : Int) : (BitVec.ofInt 8 t : Byte) = 0 ↔ t % 256 = 0 := by
  rw [← ofNat8_toNat_emod, ofNat8_eq_zero_iff]
  omega

/-! ### Sums and differences -/

/-- Settles O6: the rows compute, and `ADC` is a `readOp` of `adcCpu`, whose result and flags are the statement's. -/
theorem adcResult : Obligations.AdcResult := by
  refine ⟨by decide +kernel, fun i s h => ?_⟩
  rw [exec_adc i s h, opAdc, readOp]
  simp only [adcCpu, setZN_eq_decide, ofNat8_mod, ofNat8_eq_zero_iff, bne, beq_eq_decide, Bool.decide_and, ne_eq,
    decide_not]

/-- R161: a difference lies 256 below the sum with the complement. -/
theorem difference_add_256 (a m : Byte) (c : Bool) :
    (a.toNat : Int) - m.toNat - (1 - c.toNat) + 256 = ((a.toNat + (m ^^^ 0xFF).toNat + c.toNat : Nat) : Int) := by
  have hm := m.isLt
  have hcomplement : (m ^^^ 0xFF).toNat = 255 - m.toNat := by
    rw [show m ^^^ 0xFF = ~~~m from BitVec.xor_allOnes, BitVec.toNat_not]
  omega

/-- R161: the complement has the other sign, so equal signs for `ADC` are different ones for `SBC`. -/
theorem sign_beq_complement (a m : Byte) : (a.getLsbD 7 == (m ^^^ 0xFF).getLsbD 7) = (a.getLsbD 7 != m.getLsbD 7) := by
  have hsign : (m ^^^ 0xFF).getLsbD 7 = !m.getLsbD 7 := by simp
  rw [hsign, Bool.eq_iff_iff, beq_iff_eq, bne_iff_ne, Bool.eq_not]

/-- R161: `SBC` is `ADC` of the complement: the sum is the same byte as the difference, and has a carry when there is no
borrow. -/
theorem sbcCpu_eq_adcCpu (m : Byte) (c : Cpu) : sbcCpu m c = adcCpu (m ^^^ 0xFF) c := by
  have hsum := difference_add_256 c.a m c.p.c
  have hresult := ofInt8_eq_ofNat8_of_add_256 hsum
  have hcarry : 0 ≤ (c.a.toNat : Int) - m.toNat - (1 - c.p.c.toNat) ↔
      c.a.toNat + (m ^^^ 0xFF).toNat + c.p.c.toNat > 255 := by omega
  simp only [sbcCpu, adcCpu, hresult, hcarry, sign_beq_complement]

/-- Settles O7: the rows compute, `sbcCpu_eq_adcCpu`, and `SBC` is a `readOp` of `sbcCpu`, whose result and flags are the
statement's. -/
theorem sbcResult : Obligations.SbcResult := by
  refine ⟨by decide +kernel, sbcCpu_eq_adcCpu, fun i s h => ?_⟩
  rw [exec_sbc i s h, opSbc, readOp]
  simp only [sbcCpu, setZN_eq_decide, ofNat8_toNat_emod, ofInt8_eq_zero_iff, bne, beq_eq_decide, Bool.decide_and, ne_eq,
    decide_not]

/-! ### Comparisons -/

/-- R162, R163, R164: a comparison's flags; the difference is zero when the bytes are equal. -/
theorem compareFlags_eq_decide (r m : Byte) (p : Flags) : compareFlags r m p =
    { p with c := decide (m.toNat ≤ r.toNat), z := decide (r = m), n := (r - m).getLsbD 7 } := by
  simp only [compareFlags, setZN_eq_decide, sub_eq_zero]

/-- Settles O8: the rows compute, and each comparison is a `readOp` that sets `compareFlags`. -/
theorem compareResults : Obligations.CompareResults := by
  refine ⟨by decide +kernel, by decide +kernel, by decide +kernel, fun i s => ⟨fun h => ?_, fun h => ?_, fun h => ?_⟩⟩
  · rw [exec_cmp i s h, opCmp, readOp, compareFlags_eq_decide]
  · rw [exec_cpx i s h, opCpx, readOp, compareFlags_eq_decide]
  · rw [exec_cpy i s h, opCpy, readOp, compareFlags_eq_decide]

/-! ### Increments and decrements of memory -/

/-- R118: an instruction's operand has no mode that its mnemonic lacks. -/
theorem operand_mode_ne {i : Instr} {m : Mnemonic} {mode : Mode} (h : i.mnemonic = m) (hmode : m.allows mode = false) :
    i.operand.mode ≠ mode := by
  rintro rfl
  rw [← h] at hmode
  exact Bool.false_ne_true (hmode.symm.trans (instr_wellFormed i))

/-- R77: a read-modify-write instruction on memory is one read and then one write of the result at the effective
address. -/
theorem modifyOp_eq_memWrite (f : Byte → Flags → Byte × Flags) {o : Operand} (t : Timing) (s : State)
    (hacc : o ≠ .accumulator) (himm : o.mode ≠ .immediate) :
    modifyOp f o t s =
      (let p := prepare o t s
       let m := memRead p.1 p.2
       let r := f m.1 s.cpu.p
       { memWrite p.1 r.1 m.2 with cpu := { p.2.cpu with p := r.2 } }) := by
  cases o with
  | accumulator => exact absurd rfl hacc
  | immediate v => exact absurd rfl himm
  | _ => simp only [modifyOp, readOperand, memWrite_cpu, memRead_cpu, prepare_cpu, accountFor_p]

/-- R165: the byte incremented, as a number. -/
theorem add_one_eq_ofNat (v : Byte) : v + 1 = BitVec.ofNat 8 ((v.toNat + 1) % 256) :=
  BitVec.eq_of_toNat_eq (by rw [BitVec.toNat_add, BitVec.toNat_ofNat, Nat.mod_mod]; rfl)

/-- R168: the byte decremented, as a number. -/
theorem sub_one_eq_ofNat (v : Byte) : v - 1 = BitVec.ofNat 8 ((v.toNat + 255) % 256) :=
  BitVec.eq_of_toNat_eq (by rw [BitVec.toNat_sub, BitVec.toNat_ofNat, Nat.mod_mod, Nat.add_comm]; rfl)

/-- R165, R168: `INC` and `DEC` have no accumulator form. -/
theorem incDec_operand_ne_accumulator {i : Instr} (h : i.mnemonic = .inc ∨ i.mnemonic = .dec) :
    i.operand ≠ .accumulator :=
  ne_of_apply_ne Operand.mode (h.elim (operand_mode_ne · rfl) (operand_mode_ne · rfl))

/-- Settles O9: the rows compute, and each instruction is a `modifyOp` on memory (`modifyOp_eq_memWrite`) whose result is
a number modulo 256. -/
theorem incDecMemoryResults : Obligations.IncDecMemoryResults := by
  refine ⟨by decide +kernel, by decide +kernel, fun i s => ⟨fun h => ?inc, fun h => ?dec⟩⟩
  case inc =>
    rw [exec_inc i s h, opInc,
      modifyOp_eq_memWrite incByte _ _ (incDec_operand_ne_accumulator (.inl h)) (operand_mode_ne h rfl)]
    simp only [incByte, add_one_eq_ofNat, setZN_eq_decide]
  case dec =>
    rw [exec_dec i s h, opDec,
      modifyOp_eq_memWrite decByte _ _ (incDec_operand_ne_accumulator (.inr h)) (operand_mode_ne h rfl)]
    simp only [decByte, sub_one_eq_ofNat, setZN_eq_decide]

end Sys2Proof.Machine
end

section
/-! PROOFS. The logic and shift family: bitwise results and the bit test, shifts, and rotations through the carry. -/

namespace Sys2Proof.Machine

/-! ### Rotations by nine -/

/-- R186, R187: the nine bits that a rotation turns, the byte's and then the carry. -/
def nineBit (x : Byte × Flags) (i : Fin 9) : Bool := (BitVec.cons x.2.c x.1).getLsbD i

/-- The nine bits determine byte and carry. -/
theorem eq_of_nineBit_eq {x y : Byte × Flags} (h : ∀ i, nineBit x i = nineBit y i) : x.1 = y.1 ∧ x.2.c = y.2.c := by
  have hcons : BitVec.cons x.2.c x.1 = BitVec.cons y.2.c y.1 := BitVec.eq_of_getLsbD_eq fun i hi => h ⟨i, hi⟩
  constructor
  · simpa using congrArg (BitVec.setWidth 8) hcons
  · simpa using congrArg BitVec.msb hcons

/-- R186: the byte loses bit 7 and takes the carry in at bit 0. -/
theorem rolByte_fst (v : Byte) (p : Flags) : (rolByte v p).1 = (v.setWidth 7).concat p.c := by
  have hc := Bool.toNat_le p.c
  apply BitVec.eq_of_toNat_eq
  rw [rolByte, BitVec.toNat_ofNat, BitVec.toNat_concat, BitVec.toNat_setWidth]
  omega

/-- R187: the byte loses bit 0 and takes the carry in at bit 7. -/
theorem rorByte_fst (v : Byte) (p : Flags) : (rorByte v p).1 = BitVec.cons p.c (v.extractLsb' 1 7) := by
  have hc := Bool.toNat_le p.c
  have hv := v.isLt
  apply BitVec.eq_of_toNat_eq
  rw [rorByte, BitVec.toNat_ofNat, BitVec.toNat_cons', BitVec.extractLsb'_toNat, Nat.shiftLeft_eq,
    Nat.shiftRight_eq_div_pow]
  omega

/-- R186: `ROL` takes each of the nine bits from the place below it, round the end. -/
theorem nineBit_rolByte (x : Byte × Flags) (i : Fin 9) : nineBit (rolByte x.1 x.2) i = nineBit x (i + 8) := by
  rw [nineBit, rolByte_fst]
  fin_cases i <;> simp [nineBit, rolByte, BitVec.getElem_cons, BitVec.getElem_concat]

/-- R187: `ROR` takes each of the nine bits from the place above it, round the end. -/
theorem nineBit_rorByte (x : Byte × Flags) (i : Fin 9) : nineBit (rorByte x.1 x.2) i = nineBit x (i + 1) := by
  rw [nineBit, rorByte_fst]
  fin_cases i <;> simp [nineBit, rorByte, BitVec.getElem_cons]

/-- Turning the nine bits by `d` places, `k` times, turns them by `k • d` places. -/
theorem nineBit_repeatFun {f : Byte × Flags → Byte × Flags} {d : Fin 9}
    (hf : ∀ x i, nineBit (f x) i = nineBit x (i + d)) (k : Nat) (x : Byte × Flags) (i : Fin 9) :
    nineBit (repeatFun f k x) i = nineBit x (i + k • d) := by
  induction k generalizing x with
  | zero => rw [repeatFun, zero_nsmul, add_zero]
  | succ k ih => rw [repeatFun, ih, hf, add_assoc, succ_nsmul]

/-- R186, R187: nine turns by any number of places are the identity. -/
theorem repeatFun_nine {f : Byte × Flags → Byte × Flags} {d : Fin 9}
    (hf : ∀ x i, nineBit (f x) i = nineBit x (i + d)) (x : Byte × Flags) :
    (repeatFun f 9 x).1 = x.1 ∧ (repeatFun f 9 x).2.c = x.2.c := by
  have hd : 9 • d = 0 := by simpa using card_nsmul_eq_zero (x := d)
  refine eq_of_nineBit_eq fun i => ?_
  rw [nineBit_repeatFun hf, hd, add_zero]

/-! ### Read-modify-write instructions on the accumulator -/

/-- R93: an instruction on the accumulator has one byte and two cycles. -/
theorem timing_of_operand_accumulator {i : Instr} (h : i.operand = .accumulator) : i.timing = ⟨1, 2, false⟩ := by
  cases i <;> cases h <;> rfl

/-- R93: a read-modify-write instruction on the accumulator changes `A` and the flags, and nothing else. -/
theorem modifyOp_accumulator_eq_past (f : Byte → Flags → Byte × Flags) {i : Instr} (s : State)
    (h : i.operand = .accumulator) :
    modifyOp f i.operand i.timing s =
      { s with cpu := { s.cpu.past 1 2 with a := (f s.cpu.a s.cpu.p).1, p := (f s.cpu.a s.cpu.p).2 } } := by
  rw [h, timing_of_operand_accumulator h]
  rfl

/-- Settles O12: the rows compute, a rotation turns the nine bits by one place (`repeatFun_nine`), and each instruction is
a `modifyOp` of it. -/
theorem rotateResults : Obligations.RotateResults := by
  refine ⟨by decide +kernel, by decide +kernel, fun v p => ?nine, fun i s =>
    ⟨fun h ho => ?rolA, fun h ho => ?rolMemory, fun h ho => ?rorA, fun h ho => ?rorMemory⟩⟩
  case nine =>
    obtain ⟨hrol, hrolCarry⟩ := repeatFun_nine nineBit_rolByte (v, p)
    obtain ⟨hror, hrorCarry⟩ := repeatFun_nine nineBit_rorByte (v, p)
    exact ⟨hrol, hrolCarry, hror, hrorCarry⟩
  case rolA =>
    rw [exec_rol i s h, opRol, modifyOp_accumulator_eq_past rolByte s ho, rolByte, setZN_eq_decide]
  case rolMemory =>
    rw [exec_rol i s h, opRol, modifyOp_eq_memWrite rolByte _ _ ho (operand_mode_ne h rfl)]
    simp only [rolByte, setZN_eq_decide]
  case rorA =>
    rw [exec_ror i s h, opRor, modifyOp_accumulator_eq_past rorByte s ho, rorByte, setZN_eq_decide]
  case rorMemory =>
    rw [exec_ror i s h, opRor, modifyOp_eq_memWrite rorByte _ _ ho (operand_mode_ne h rfl)]
    simp only [rorByte, setZN_eq_decide]

/-! ### Bitwise results and the bit test -/

/-- R183: the flags of the bit test. -/
theorem bitFlags_eq_decide (a m : Byte) (p : Flags) :
    bitFlags a m p = { p with z := decide (a &&& m = 0), n := m.getLsbD 7, v := m.getLsbD 6 } := rfl

/-- Settles O10: the rows compute, and each instruction is a `readOp` that sets `setZN` of its result, or `bitFlags`. -/
theorem logicResults : Obligations.LogicResults := by
  refine ⟨by decide +kernel, by decide +kernel, by decide +kernel, by decide +kernel,
    fun i s => ⟨fun h => ?and, fun h => ?ora, fun h => ?eor, fun h => ?bit⟩⟩
  case and => rw [exec_and i s h, opAnd, readOp, setZN_eq_decide]
  case ora => rw [exec_ora i s h, opOra, readOp, setZN_eq_decide]
  case eor => rw [exec_eor i s h, opEor, readOp, setZN_eq_decide]
  case bit => rw [exec_bit i s h, opBit, readOp, bitFlags_eq_decide]

/-! ### Shifts -/

/-- Settles O11: the rows compute, and each instruction is a `modifyOp` whose result is a number modulo 256. -/
theorem shiftResults : Obligations.ShiftResults := by
  refine ⟨by decide +kernel, by decide +kernel, fun i s =>
    ⟨fun h ho => ?aslA, fun h ho => ?aslMemory, fun h ho => ?lsrA, fun h ho => ?lsrMemory⟩⟩
  case aslA =>
    rw [exec_asl i s h, opAsl, modifyOp_accumulator_eq_past aslByte s ho]
    simp only [aslByte, ofNat8_mod, setZN_eq_decide]
  case aslMemory =>
    rw [exec_asl i s h, opAsl, modifyOp_eq_memWrite aslByte _ _ ho (operand_mode_ne h rfl)]
    simp only [aslByte, ofNat8_mod, setZN_eq_decide]
  case lsrA =>
    rw [exec_lsr i s h, opLsr, modifyOp_accumulator_eq_past lsrByte s ho]
    simp only [lsrByte, setZN_eq_decide]
  case lsrMemory =>
    rw [exec_lsr i s h, opLsr, modifyOp_eq_memWrite lsrByte _ _ ho (operand_mode_ne h rfl)]
    simp only [lsrByte, setZN_eq_decide]

end Sys2Proof.Machine
end

section
/-! PROOFS. The control family: jumps, subroutines, the conditional branches, `BRK` and `RTI`, and the way through a
handler and back. -/

namespace Sys2Proof.Machine

/-! ### Accounting and 16-bit accesses -/

/-- R110: without a page penalty, an operation finds the registers as before, past the instruction's bytes and cycles. -/
theorem prepare_eq_past (o : Operand) (size cycles : Nat) (s : State) :
    prepare o ⟨size, cycles, false⟩ s =
      ((resolve o s).1.ea, { (resolve o s).2 with cpu := s.cpu.past (BitVec.ofNat 16 size) cycles }) := by
  rw [prepare, resolve_cpu]
  rfl

/-- R54: a 16-bit read is two reads, low byte first. -/
theorem read16_eq_memRead (a : Word) (s : State) :
    read16 a s =
      (let lo := memRead a s
       let hi := memRead (a + 1) lo.2
       (littleEndian lo.1 hi.1, hi.2)) := by
  simp only [read16, littleEndian_eq_wordOfBytes]

/-- R24: a 16-bit push is two writes, high byte first. -/
theorem push16_eq_memWrite (w : Word) (s : State) :
    push16 w s =
      (let s1 := memWrite (stackSlot s.cpu.sp) (BitVec.ofNat 8 (w.toNat / 256)) s
       { memWrite (stackSlot (s.cpu.sp - 1)) (BitVec.ofNat 8 (w.toNat % 256))
          { s1 with cpu := { s.cpu with sp := s.cpu.sp - 1 } } with
         cpu := { s.cpu with sp := s.cpu.sp - 1 - 1 } }) := by
  rw [push16, push_eq_memWrite, push_eq_memWrite, hiByte_eq_ofNat, loByte_eq_ofNat]

/-- R25: a 16-bit pull is two reads, low byte first. -/
theorem pull16_eq_memRead (s : State) :
    pull16 s =
      (let lo := memRead (stackSlot (s.cpu.sp + 1)) { s with cpu := { s.cpu with sp := s.cpu.sp + 1 } }
       let hi := memRead (stackSlot (s.cpu.sp + 1 + 1)) { lo.2 with cpu := { s.cpu with sp := s.cpu.sp + 1 + 1 } }
       (littleEndian lo.1 hi.1, hi.2)) := by
  simp only [pull16, pull_eq_memRead, memRead_cpu, littleEndian_eq_wordOfBytes]

/-! ### Jumps and subroutines -/

/-- Settles O13: the rows compute, and the indirect form's target is a `read16Page`, after which the registers are those
behind the instruction (`prepare_eq_past`). -/
theorem jmpResult : Obligations.JmpResult := by
  refine ⟨by decide +kernel, fun a s => ⟨rfl, ?indirect⟩⟩
  rw [exec_jmp (.jmpInd a) s rfl, opJmp, Instr.operand, Instr.timing, prepare_eq_past, resolve, read16Page_eq]
  rfl

/-- Settles O14: the rows compute, and each instruction is a 16-bit push or pull after its accounting. -/
theorem subroutineResults : Obligations.SubroutineResults := by
  refine ⟨by decide +kernel, by decide +kernel, fun a s => ⟨?jsr, ?rts⟩⟩
  case jsr =>
    have hlast : (s.cpu.past (BitVec.ofNat 16 3) 6).pc - 1 = s.cpu.pc + 2 := by rw [Cpu.past]; bv_omega
    rw [exec_jsr (.jsrAbs a) s rfl, opJsr, Instr.operand, Instr.timing, prepare_eq_past, resolve, hlast,
      push16_eq_memWrite]
    rfl
  case rts =>
    rw [exec_rts .rts s rfl, opRts, Instr.timing, prepare_implied, pull16_eq_memRead, memRead_cpu]
    rfl

/-! ### Conditional branches -/

/-- R104: an instruction of the relative mode has two bytes and two base cycles. -/
theorem timing_of_operand_relative {i : Instr} {off : Byte} (h : i.operand = .relative off) :
    i.timing = ⟨2, 2, false⟩ := by
  cases i <;> cases h <;> rfl

/-- R204 to R211: a mnemonic that tests a flag is the common branch rule with that test. -/
theorem operationOf_eq_branchIf {m : Mnemonic} {p : Flags} {taken : Bool} (h : branchTaken m p = some taken)
    (o : Operand) (t : Timing) (s : State) :
    operationOf m o t s = branchIf (fun q => (branchTaken m q).getD false) o t s := by
  cases m
  case bcc | bcs | beq | bne | bmi | bpl | bvc | bvs => rfl
  all_goals cases h

/-- R203: what a branch does with `PC` and `cycles`, and that it does nothing else. -/
theorem branchIf_relative (cond : Flags → Bool) (off : Byte) (s : State) :
    branchIf cond (.relative off) ⟨2, 2, false⟩ s =
      (let next := s.cpu.pc + 2
       let ea := next + sext16 off
       { s with cpu := { s.cpu with
          pc := if cond s.cpu.p then ea else next
          cycles := s.cpu.cycles + (if cond s.cpu.p then (if pagesDiffer next ea then 4 else 3) else 2) } }) := by
  have hcycles (crossed : Bool) : s.cpu.cycles + 2 + 1 + (if crossed then 1 else 0) =
      s.cpu.cycles + (if crossed then 4 else 3) := by
    cases crossed <;> rfl
  rw [branchIf, prepare_eq_past, resolve]
  cases hcond : cond s.cpu.p
  case false =>
    simp only [Cpu.past, hcond, Bool.false_eq_true, if_false]
    rfl
  case true =>
    simp only [Cpu.past, hcond, if_true, ← hcycles]
    rfl

/-- Settles O15: the rows compute, and each branch is a `branchIf` of its test, which `branchTaken` gives. -/
theorem branchResults : Obligations.BranchResults := by
  refine ⟨by decide +kernel, by decide +kernel, by decide +kernel, by decide +kernel, by decide +kernel,
    by decide +kernel, by decide +kernel, by decide +kernel, fun i off taken s ho htaken => ?_⟩
  rw [exec_eq, operationOf_eq_branchIf htaken, ho, timing_of_operand_relative ho, branchIf_relative]
  simp only [htaken, Option.getD_some, sext16_eq_ofNat, pagesDiffer_iff, ne_eq, ite_not]

/-! ### Entering a vector and returning from it -/

/-- R54, R301: reading the vector stores nothing. -/
theorem enterVector_backing (vector : Word) (b4 : Bool) (s : State) :
    (enterVector vector b4 s).bus.backing = (push (packP b4 s.cpu.p) (push16 s.cpu.pc s)).bus.backing := by
  rw [enterVector, read16_backing]

/-- R24, R307: on a plain stack page `PC`, high byte first, and the status byte stand where entering a vector pushed
them. -/
theorem enterVector_read_stack {s : State} (h : plainStack s) (hw : s.bus.backing.wf) (vector : Word) (b4 : Bool) :
    let m := (enterVector vector b4 s).bus.backing
    m.read (stackSlot s.cpu.sp).toNat = hiByte s.cpu.pc ∧
    m.read (stackSlot (s.cpu.sp - 1)).toNat = loByte s.cpu.pc ∧
    m.read (stackSlot (s.cpu.sp - 1 - 1)).toNat = packP b4 s.cpu.p := by
  have h1 := push_keeps_plainStack h (hiByte s.cpu.pc)
  have hw1 := push_keeps_wf h hw (hiByte s.cpu.pc)
  have h2 := push_keeps_plainStack h1 (loByte s.cpu.pc)
  have hw2 := push_keeps_wf h1 hw1 (loByte s.cpu.pc)
  have hlo := push_read_same h1 hw1 (loByte s.cpu.pc)
  have hp := push_read_same h2 hw2 (packP b4 s.cpu.p)
  simp only [push_cpu] at hlo hp
  rw [enterVector_backing, push16]
  refine ⟨?_, ?_, hp⟩
  · rw [push_read_other h2 _ (by simp only [push_cpu]; bv_omega), push_read_other h1 _ (by rw [push_cpu]; bv_omega),
      push_read_same h hw]
  · rw [push_read_other h2 _ (by simp only [push_cpu]; bv_omega), hlo]

/-- R25, R213: a return on a plain stack page takes the status byte and `PC` from the three bytes above `SP`. -/
theorem returnFromInterrupt_plain {s : State} (h : plainStack s) :
    returnFromInterrupt s = { s with cpu := { s.cpu with
      sp := s.cpu.sp + 1 + 1 + 1
      p := unpackP (s.bus.backing.read (stackSlot (s.cpu.sp + 1)).toNat)
      pc := wordOfBytes (s.bus.backing.read (stackSlot (s.cpu.sp + 1 + 1)).toNat)
        (s.bus.backing.read (stackSlot (s.cpu.sp + 1 + 1 + 1)).toNat) } } := by
  have hpull (c : Cpu) := pull_plain (s := { s with cpu := c }) h
  rw [returnFromInterrupt, pull_plain h]
  simp only [pull16, hpull]

/-- R213, R307: a return gives back `PC`, `SP` and the flags saved by entering a vector, whatever the other registers hold
by then, where the handler finds the stack page plain. -/
theorem returnFromInterrupt_enterVector {s : State} (h : plainStack s) (hw : s.bus.backing.wf) {vector : Word}
    {b4 : Bool} (ht : plainStack (enterVector vector b4 s)) (c : Cpu) (hc : c.sp = s.cpu.sp - 1 - 1 - 1) :
    returnFromInterrupt { enterVector vector b4 s with cpu := c } =
      { enterVector vector b4 s with cpu := { c with pc := s.cpu.pc, sp := s.cpu.sp, p := s.cpu.p } } := by
  obtain ⟨hhi, hlo, hp⟩ := enterVector_read_stack h hw vector b4
  rw [returnFromInterrupt_plain (s := { enterVector vector b4 s with cpu := c }) ht]
  simp only [hc, BitVec.sub_add_cancel, hhi, hlo, hp, unpackP_packP, wordOfBytes_lo_hi]

/-- R212, R307: what `BRK` does to the registers. -/
theorem opBrk_cpu (t : Timing) (s : State) :
    (opBrk t s).cpu = { accountFor t false s.cpu with
      sp := s.cpu.sp - 1 - 1 - 1
      p := { s.cpu.p with i := true }
      pc := (opBrk t s).cpu.pc } :=
  enterVector_cpu _ _ (prepare .implied t s).2

/-- R212, R213: `RTI` continues behind the `BRK`. -/
theorem opRti_opBrk {s : State} (h : plainStack s) (hw : s.bus.backing.wf) (t u : Timing)
    (ht : plainStack (opBrk t s)) :
    opRti u (opBrk t s) = { opBrk t s with cpu := { s.cpu with
      pc := s.cpu.pc + BitVec.ofNat 16 t.size
      cycles := s.cpu.cycles + t.cycles + u.cycles } } := by
  have hreturn : opRti u (opBrk t s) = _ :=
    returnFromInterrupt_enterVector (s := (prepare .implied t s).2) h hw ht (accountFor u false (opBrk t s).cpu)
      (by rw [accountFor_sp, opBrk_cpu]; rfl)
  rw [hreturn, opBrk_cpu]
  simp [opBrk, accountFor, resolve]

/-- Settles O24: `opBrk_cpu` for the way in, `opRti_opBrk` for the way back. -/
theorem breakReturnRoundTrip : Obligations.BreakReturnRoundTrip := by
  intro s h hw
  have hsp : s.cpu.sp - 1 - 1 - 1 = s.cpu.sp - 3 := by bv_omega
  refine ⟨_, exec_brk .brk s rfl, ?flags, ?sp, fun ht => ⟨_, exec_rti .rti _ rfl, ?back⟩⟩
  case flags => rw [opBrk_cpu]
  case sp => rw [opBrk_cpu, ← hsp]
  case back => rw [opRti_opBrk h hw _ _ ht]; rfl

/-! ### `BRK` and `RTI` -/

/-- Settles O16: the rows compute, and `BRK` enters the IRQ vector after its accounting, by three writes and two reads. -/
theorem brkResult : Obligations.BrkResult := by
  refine ⟨by decide +kernel, fun s => ?_⟩
  rw [exec_brk .brk s rfl, opBrk, Instr.timing, prepare_eq_past, resolve, enterVector, push_eq_memWrite,
    push16_eq_memWrite, read16_eq_memRead, packP_true_eq_ofNat]
  simp only [memRead_cpu]
  rfl

/-- Settles O17: the rows compute, and `RTI` pulls the status byte and then a word after its accounting. -/
theorem rtiResult : Obligations.RtiResult := by
  refine ⟨by decide +kernel, fun s => ?_⟩
  rw [exec_rti .rti s rfl, opRti, Instr.timing, prepare_implied, returnFromInterrupt, pull_eq_memRead,
    pull16_eq_memRead, unpackP]
  simp only [memRead_cpu]
  rfl

end Sys2Proof.Machine
end

section
/-! PROOFS. The flag family: the flag instructions, `NOP`, and the undocumented opcodes. -/

namespace Sys2Proof.Machine

/-- Settles O18: the rows compute, and each instruction is a `registerOp` (`registerOp_eq_past`) that sets one flag, or
none; passing the instruction leaves the flags alone. -/
theorem flagResults : Obligations.FlagResults := by
  refine ⟨by decide +kernel, by decide +kernel, by decide +kernel, by decide +kernel, by decide +kernel,
    by decide +kernel, by decide +kernel, by decide +kernel,
    fun s => ⟨?clc, ?sec, ?cli, ?sei, ?clv, ?cld, ?sed, ?nop⟩⟩
  case clc | sec | cli | sei | clv | cld | sed | nop =>
    simp only [exec_eq, Instr.mnemonic, Instr.timing, operationOf, opClc, opSec, opCli, opSei, opClv, opCld, opSed,
      opNop, registerOp_eq_past]
    rfl

/-- Settles O19: the rows compute, and each opcode is its accounting (`prepare`), which changes `PC` and `cycles` only
(`accountFor`) after an operand resolution that keeps the registers (`resolve_cpu`) and stores nothing
(`resolve_backing`). -/
theorem undocResult : Obligations.UndocResult := by
  refine ⟨by decide +kernel, fun i s h => ⟨?next, resolve_backing i.operand s⟩⟩
  rw [exec_undoc i s h, opUndoc, prepare, resolve_cpu, accountFor]
  simp only [Bool.and_eq_true]

end Sys2Proof.Machine
end

section
/-! PROOFS. The picture processor's ports: the fields of its scroll registers, with the increments and copies of R352, the
register writes of R350, and the mask, status, OAM and data ports. -/

namespace Sys2Proof.Machine

/-! ### The fields of a scroll register -/

/-- Bits outside a field do not show in it. -/
theorem field_xor_outside {lo width : Nat} {mask : BitVec 15} (v : BitVec 15)
    (h : ∀ j < width, mask.getLsbD (lo + j) = false) : field lo width (v ^^^ mask) = field lo width v := by
  apply Nat.eq_of_testBit_eq
  intro j
  rw [testBit_field, testBit_field, BitVec.getLsbD_xor]
  by_cases hj : j < width
  · rw [h j hj, Bool.xor_false]
  · rw [decide_eq_false hj, Bool.false_and, Bool.false_and]

/-- A field of one bit is that bit. -/
theorem field_one (lo : Nat) (v : BitVec 15) : field lo 1 v = (v.getLsbD lo).toNat := by
  rw [field, BitVec.getLsbD, Nat.toNat_testBit, Nat.pow_one]

/-- A field of one bit toggles with it. -/
theorem field_xor_bit {lo : Nat} {mask : BitVec 15} (v : BitVec 15) (h : mask.getLsbD lo = true) :
    field lo 1 (v ^^^ mask) = 1 - field lo 1 v := by
  rw [field_one, field_one, BitVec.getLsbD_xor, h]
  cases v.getLsbD lo <;> rfl

theorem field_lt (lo width : Nat) (v : BitVec 15) : field lo width v < 2 ^ width :=
  Nat.mod_lt _ (Nat.two_pow_pos width)

/-- A field counted up without reaching its end does not wrap. -/
theorem field_succ_mod {lo width : Nat} {v : BitVec 15} (h : field lo width v ≠ 2 ^ width - 1) :
    (field lo width v + 1) % 2 ^ width = field lo width v + 1 := by
  have := field_lt lo width v
  exact Nat.mod_eq_of_lt (by omega)

/-- R352: coarse X counts up, and from 31 wraps into the other horizontal nametable. -/
theorem field_incrementX (v : BitVec 15) :
    field 5 5 (incrementX v) = field 5 5 v ∧ field 11 4 (incrementX v) = field 11 4 v ∧
    (field 0 5 v = 31 → field 0 5 (incrementX v) = 0 ∧ field 10 1 (incrementX v) = 1 - field 10 1 v) ∧
    (field 0 5 v ≠ 31 →
      field 0 5 (incrementX v) = field 0 5 v + 1 ∧ field 10 1 (incrementX v) = field 10 1 v) := by
  by_cases hend : field 0 5 v = 31
  · have hx : incrementX v = setField 0 5 0 v ^^^ 0x0400 := if_pos hend
    simp (disch := decide) only [hx, field_xor_outside, field_xor_bit, field_setField_same, field_setField_other]
    simp [hend]
  · have hx : incrementX v = setField 0 5 (field 0 5 v + 1) v := if_neg hend
    simp (disch := decide) only [hx, field_setField_same, field_setField_other, field_succ_mod hend]
    simp [hend]

/-- R352: below 7, fine Y counts up. -/
theorem incrementY_fine {v : BitVec 15} (h : field 12 3 v < 7) :
    incrementY v = setField 12 3 (field 12 3 v + 1) v := if_pos h

/-- R352: at 7, fine Y wraps and coarse Y counts up; from 29 it wraps into the other vertical nametable, from 31 into its
own. -/
theorem incrementY_coarse {v : BitVec 15} (h : field 12 3 v = 7) :
    incrementY v =
      if field 5 5 v = 29 then setField 5 5 0 (setField 12 3 0 v) ^^^ 0x0800
      else if field 5 5 v = 31 then setField 5 5 0 (setField 12 3 0 v)
      else setField 5 5 (field 5 5 v + 1) (setField 12 3 0 v) := if_neg (by omega)

theorem field_incrementY (v : BitVec 15) :
    field 0 5 (incrementY v) = field 0 5 v ∧ field 10 1 (incrementY v) = field 10 1 v ∧
    (field 12 3 v < 7 → field 12 3 (incrementY v) = field 12 3 v + 1 ∧ field 5 7 (incrementY v) = field 5 7 v) ∧
    (field 12 3 v = 7 → field 12 3 (incrementY v) = 0 ∧
      (field 5 5 v = 29 → field 5 5 (incrementY v) = 0 ∧ field 11 1 (incrementY v) = 1 - field 11 1 v) ∧
      (field 5 5 v = 31 → field 5 5 (incrementY v) = 0 ∧ field 11 1 (incrementY v) = field 11 1 v) ∧
      (field 5 5 v ≠ 29 → field 5 5 v ≠ 31 →
        field 5 5 (incrementY v) = field 5 5 v + 1 ∧ field 11 1 (incrementY v) = field 11 1 v)) := by
  by_cases hfine : field 12 3 v < 7
  · simp (disch := decide) only [incrementY_fine hfine, field_setField_same, field_setField_other,
      field_succ_mod (show field 12 3 v ≠ 2 ^ 3 - 1 by omega)]
    simp [hfine, Nat.ne_of_lt hfine]
  have hseven : field 12 3 v = 7 := by
    have := field_lt 12 3 v
    omega
  rw [incrementY_coarse hseven]
  by_cases h29 : field 5 5 v = 29
  · simp (disch := decide) only [if_pos h29, field_xor_outside, field_xor_bit, field_setField_same, field_setField_other]
    simp [hseven, h29]
  by_cases h31 : field 5 5 v = 31
  · simp (disch := decide) only [if_neg h29, if_pos h31, field_setField_same, field_setField_other]
    simp [hseven, h31]
  · simp (disch := decide) only [if_neg h29, if_neg h31, field_setField_same, field_setField_other, field_succ_mod h31]
    simp [hseven, h29, h31]

/-- R352: the horizontal copy takes coarse X and the horizontal nametable bit. -/
theorem field_copyX (t v : BitVec 15) :
    field 10 1 (copyX t v) = field 10 1 t ∧ field 0 5 (copyX t v) = field 0 5 t ∧
    field 5 5 (copyX t v) = field 5 5 v ∧ field 11 4 (copyX t v) = field 11 4 v := by
  simp (disch := decide) only [copyX, field_setField_same, field_setField_other, Nat.mod_eq_of_lt (field_lt _ _ _),
    and_self]

/-- R352: the vertical copy takes coarse Y, the vertical nametable bit and fine Y. -/
theorem field_copyY (t v : BitVec 15) :
    field 11 4 (copyY t v) = field 11 4 t ∧ field 5 5 (copyY t v) = field 5 5 t ∧
    field 0 5 (copyY t v) = field 0 5 v ∧ field 10 1 (copyY t v) = field 10 1 v := by
  simp (disch := decide) only [copyY, field_setField_same, field_setField_other, Nat.mod_eq_of_lt (field_lt _ _ _),
    and_self]

/-! ### The ports -/

/-- R344: arming touches the NMI delay only. -/
theorem armNmi_eq (p q : Ppu) : armNmi p q = { q with nmiDelay := (armNmi p q).nmiDelay } := by
  unfold armNmi
  split <;> rfl

/-- R344: arming loads the delay when the NMI output goes from false to true. -/
theorem armNmi_nmiDelay (p q : Ppu) :
    (armNmi p q).nmiDelay = if p.nmiOut = false ∧ q.nmiOut = true then 15 else q.nmiDelay := by
  unfold armNmi
  cases p.nmiOut <;> cases q.nmiOut <;> rfl

/-- R350, R344: a write to the control port changes its register, a field of `t`, and the NMI delay. -/
theorem writePort_control_ppu (d : Byte) (s : State) :
    (writePort 0 d s).ppu = { s.ppu with
      ctrl := d, t := setField 10 2 d.toNat s.ppu.t, nmiDelay := (writePort 0 d s).ppu.nmiDelay } :=
  armNmi_eq _ _

/-- R350: the first write to the scroll port. -/
theorem writePort_scroll_first (d : Byte) {s : State} (hw : s.ppu.w = false) :
    (writePort 5 d s).ppu = { s.ppu with
      t := setField 0 5 (d.toNat / 8) s.ppu.t, fineX := d.setWidth 3, w := true } :=
  if_neg (by rw [hw]; decide)

/-- R350: the second write to the scroll port. -/
theorem writePort_scroll_second (d : Byte) {s : State} (hw : s.ppu.w = true) :
    (writePort 5 d s).ppu = { s.ppu with
      t := setField 5 5 (d.toNat / 8) (setField 12 3 d.toNat s.ppu.t), w := false } :=
  if_pos hw

/-- R350: the first write to the address port. -/
theorem writePort_address_first (d : Byte) {s : State} (hw : s.ppu.w = false) :
    (writePort 6 d s).ppu = { s.ppu with t := setField 14 1 0 (setField 8 6 d.toNat s.ppu.t), w := true } :=
  if_neg (by rw [hw]; decide)

/-- R350: the second write to the address port. -/
theorem writePort_address_second (d : Byte) {s : State} (hw : s.ppu.w = true) :
    (writePort 6 d s).ppu = { s.ppu with
      t := setField 0 8 d.toNat s.ppu.t, v := setField 0 8 d.toNat s.ppu.t, w := false } :=
  if_pos hw

/-- Settles O50: each write sets fields of `t` (`field_setField_same`, `field_setField_other`), and a byte's value or its
upper five bits fit their field. -/
theorem scrollWrites : Obligations.ScrollWrites := by
  intro s d p bits dn c sc ad
  have hbits (x : BitVec 15) (lo n : Nat) : bits x lo n = field lo n x := rfl
  have hbyte : dn % 2 ^ 8 = dn := Nat.mod_eq_of_lt d.isLt
  have hcoarse : dn / 8 % 2 ^ 5 = dn / 8 := by
    have := d.isLt
    omega
  simp only [hbits]
  refine ⟨?control, fun hw => ?scroll1, fun hw => ?scroll2, fun hw => ?address1, fun hw => ?address2⟩
  case control =>
    rw [show c = _ from writePort_control_ppu d s]
    simp (disch := decide) only [field_setField_same, field_setField_other, true_and]
    exact ⟨rfl, rfl, rfl, rfl, rfl, rfl⟩
  case scroll1 =>
    rw [show sc = _ from writePort_scroll_first d hw]
    simp (disch := decide) only [field_setField_same, field_setField_other, true_and]
    exact ⟨hcoarse, rfl, BitVec.toNat_setWidth .., rfl⟩
  case scroll2 =>
    rw [show sc = _ from writePort_scroll_second d hw]
    simp (disch := decide) only [field_setField_same, field_setField_other, true_and]
    exact ⟨rfl, hcoarse, rfl, rfl, rfl, rfl⟩
  case address1 =>
    rw [show ad = _ from writePort_address_first d hw]
    simp (disch := decide) only [field_setField_same, field_setField_other, true_and]
    exact ⟨rfl, rfl, rfl, rfl, rfl⟩
  case address2 =>
    rw [show ad = _ from writePort_address_second d hw]
    simp (disch := decide) only [field_setField_same, field_setField_other, true_and]
    exact ⟨hbyte, rfl, rfl⟩

/-- Settles O51: the status byte's top bits are its flags (`byteOfBits_getLsbD`); the other ports compute. -/
theorem maskStatusAndOamPorts : Obligations.MaskStatusAndOamPorts := by
  intro s d
  obtain ⟨-, -, -, -, -, hoverflow, hhit, hvblank⟩ := byteOfBits_getLsbD s.ppu.vblank s.ppu.spriteZeroHit
    s.ppu.spriteOverflow ((takeFreeByte s).1.getLsbD 4) ((takeFreeByte s).1.getLsbD 3) ((takeFreeByte s).1.getLsbD 2)
    ((takeFreeByte s).1.getLsbD 1) ((takeFreeByte s).1.getLsbD 0)
  refine ⟨hvblank, hhit, hoverflow, rfl, rfl, rfl, rfl, ?_, rfl⟩
  rw [← add_one_eq_ofNat]
  rfl

/-! ### The data port -/

@[simp] theorem ppuRead_ppu (a : Nat) (s : State) : (ppuRead a s).2.ppu = s.ppu := (ppuRead_wiring a s).2

/-- R72: a read where the mapper does not intercept it gives the byte of the cell and changes nothing. -/
theorem ppuRead_direct {a : Nat} {s : State} (ha : a < 0x4000) (h : ppuMapped PpuSpan.reads s.ppu.slots a = false) :
    ppuRead a s = (s.ppu.memory.read (vramCell s a), s) := by
  rw [ppuRead, Nat.mod_eq_of_lt ha, h]
  rfl

/-- R72, R375: a read where the mapper intercepts it is the mapper's CHR-space get. -/
theorem ppuRead_mapped {a : Nat} {s : State} (ha : a < 0x4000) (h : ppuMapped PpuSpan.reads s.ppu.slots a = true) :
    ppuRead a s = mapperChrRead s := by
  rw [ppuRead, Nat.mod_eq_of_lt ha, h]
  rfl

/-- R349: a read of the data port below the palette gives the old buffer. -/
theorem readData_buffered {s : State} (h : s.ppu.v.toNat % 0x4000 < 0x3F00) :
    readData s = (s.ppu.readBuffer, { (ppuRead (s.ppu.v.toNat % 0x4000) s).2 with ppu := { s.ppu with
      v := s.ppu.v + s.ppu.increment
      readBuffer := (ppuRead (s.ppu.v.toNat % 0x4000) s).1 } }) := by
  simp only [readData, if_pos h, advanceV, ppuRead_ppu]
  rfl

/-- R349: a read of the data port in the palette gives the byte at once, and buffers the one under it. -/
theorem readData_palette {s : State} (h : 0x3F00 ≤ s.ppu.v.toNat % 0x4000) :
    let here := ppuRead (s.ppu.v.toNat % 0x4000) s
    let under := ppuRead (s.ppu.v.toNat % 0x4000 - 0x1000) here.2
    readData s = (here.1, { under.2 with ppu := { s.ppu with
      v := s.ppu.v + s.ppu.increment
      readBuffer := under.1 } }) := by
  simp only [readData, if_neg (Nat.not_lt.mpr h), advanceV, ppuRead_ppu]
  rfl

/-- R349: a read of the data port counts `v` on, fills the buffer, and changes nothing else of the picture processor. -/
theorem readData_ppu (s : State) :
    (readData s).2.ppu =
      { s.ppu with v := s.ppu.v + s.ppu.increment, readBuffer := (readData s).2.ppu.readBuffer } := by
  by_cases h : s.ppu.v.toNat % 0x4000 < 0x3F00
  · rw [readData_buffered h]
  · rw [readData_palette (Nat.not_lt.mp h)]

/-- R349, R72: a write to the data port where the mapper does not intercept it. -/
theorem writePort_data_direct {s : State} (d : Byte)
    (h : ppuMapped PpuSpan.writes s.ppu.slots (s.ppu.v.toNat % 0x4000) = false) :
    writePort 7 d s = { s with ppu := { s.ppu with
      v := s.ppu.v + s.ppu.increment
      memory := s.ppu.memory.write (vramCell s (s.ppu.v.toNat % 0x4000)) d } } := by
  rw [writePort, ppuWrite, Nat.mod_mod, h]
  rfl

/-- R349, R375: a write to the data port where the mapper intercepts it. -/
theorem writePort_data_mapped {s : State} (d : Byte)
    (h : ppuMapped PpuSpan.writes s.ppu.slots (s.ppu.v.toNat % 0x4000) = true) :
    writePort 7 d s = { mapperChrWrite s with ppu := { s.ppu with
      v := s.ppu.v + s.ppu.increment
      slots := (mapperChrWrite s).ppu.slots } } := by
  rw [writePort, ppuWrite, Nat.mod_mod, h, if_pos rfl, advanceV, (mapperChrWrite_picture s).ppu]
  rfl

/-- R349: a write to the data port counts `v` on. -/
theorem writePort_data_ppu (d : Byte) (s : State) :
    (writePort 7 d s).ppu = { s.ppu with
      v := s.ppu.v + s.ppu.increment
      memory := (writePort 7 d s).ppu.memory
      slots := (writePort 7 d s).ppu.slots } := by
  cases h : ppuMapped PpuSpan.writes s.ppu.slots (s.ppu.v.toNat % 0x4000)
  · rw [writePort_data_direct d h]
  · rw [writePort_data_mapped d h]

/-- R72: outside the nametable range an address is a cell of its own. -/
theorem vramCell_outside (s : State) {a : Nat} (h : a < 0x2000 ∨ 0x3F00 ≤ a) : vramCell s a = a :=
  if_neg (by omega)

/-- R72: in the nametable range the mirroring mode chooses the cell. -/
theorem vramCell_nametable (s : State) {a : Nat} (hlo : 0x2000 ≤ a) (hhi : a < 0x3F00) :
    vramCell s a = 0x2000 + (Config.nametableCell s.mapper.mirrorMode (BitVec.ofNat 13 (a - 0x2000))).toNat :=
  if_pos ⟨hlo, hhi⟩

/-- Settles O52: the port's accesses by their place and the mapper's interception, and the cells behind addresses. -/
theorem dataPort : Obligations.DataPort := by
  intro s d p a v intercepts
  have ha : a < 0x4000 := Nat.mod_lt _ (by decide)
  have hunder : a - 0x1000 < 0x4000 := by omega
  have hread : readPort 7 s = readData s := rfl
  rw [hread]
  refine ⟨⟨?writeV, ?readV, fun hlow => ?buffer⟩, writePort_data_direct d, writePort_data_mapped d,
    fun hlow hdirect => ?lowDirect, fun hlow hmapped => ?lowMapped, fun hhigh hdirect hu => ?highDirect,
    fun hhigh hdirect hu => ?underMapped, fun hhigh hmapped => ?highMapped, fun x => vramCell_outside s,
    fun x hlo hhi => ?cell, fun m => ⟨rfl, fun x => vramCell_nametable _⟩⟩
  case writeV => rw [writePort_data_ppu]; rfl
  case readV => rw [readData_ppu]; rfl
  case buffer => rw [readData_buffered hlow]
  case lowDirect => rw [readData_buffered hlow, ppuRead_direct ha hdirect]; rfl
  case lowMapped =>
    have hslots : (mapperChrRead s).2.ppu.slots = s.ppu.slots := by rw [(mapperChrRead_wiring s).2]
    rw [readData_buffered hlow, ppuRead_mapped ha hmapped, hslots]; rfl
  case highDirect => rw [readData_palette hhigh, ppuRead_direct ha hdirect, ppuRead_direct hunder hu]; rfl
  case underMapped =>
    rw [readData_palette hhigh, ppuRead_direct ha hdirect, ppuRead_mapped hunder hu]
    exact ⟨rfl, rfl⟩
  case highMapped => rw [readData_palette hhigh, ppuRead_mapped ha hmapped]
  case cell =>
    have := (Config.nametableCell s.mapper.mirrorMode (BitVec.ofNat 13 (x - 0x2000))).isLt
    rw [vramCell_nametable s hlo hhi]
    omega

end Sys2Proof.Machine
end

section
/-! PROOFS. What the picture processor draws: sprite evaluation, and compositing with its masks and the sprite-zero
hit. -/

namespace Sys2Proof.Machine

/-! ### Sprite evaluation -/

/-- R353: an entry qualifies when the line crosses it. -/
theorem qualifies_iff (p : Ppu) (i : Nat) :
    qualifies p i = true ↔ (p.oam.read (4 * i)).toNat ≤ p.scanLine ∧
      p.scanLine - (p.oam.read (4 * i)).toNat < if p.ctrl.getLsbD 5 then 16 else 8 :=
  decide_eq_true_iff

theorem mem_qualifying (p : Ppu) (i : Nat) : i ∈ qualifying p ↔ i < 64 ∧ qualifies p i = true := by
  rw [qualifying, List.mem_filter, List.mem_range]

/-- R353: the qualifying entries come in index order. -/
theorem pairwise_qualifying (p : Ppu) : (qualifying p).Pairwise (· < ·) :=
  List.pairwise_lt_range.filter _

/-- In a rising list, what the first `n` entries leave out lies above them, and they are `n`. -/
theorem mem_take_or_above {l : List Nat} (h : l.Pairwise (· < ·)) (n : Nat) {j : Nat} (hj : j ∈ l) :
    j ∈ l.take n ∨ ((l.take n).length = n ∧ ∀ i ∈ l.take n, i < j) := by
  rw [← List.take_append_drop n l] at h hj
  refine (List.mem_append.mp hj).imp_right fun hdrop => ⟨?_, fun i hi => ?_⟩
  · have := List.length_pos_of_mem hdrop
    rw [List.length_drop] at this
    rw [List.length_take]
    omega
  · exact (List.pairwise_append.mp h).2.2 i hi j hdrop

/-- A rising list is longer than `n` exactly when its first `n` entries leave one out. -/
theorem lt_length_iff_exists_not_mem_take {l : List Nat} (h : l.Pairwise (· < ·)) (n : Nat) :
    n < l.length ↔ ∃ j ∈ l, j ∉ l.take n := by
  constructor
  · intro hn
    refine ⟨l[n], List.getElem_mem hn, fun hmem => ?_⟩
    obtain ⟨i, hi, heq⟩ := List.getElem_of_mem hmem
    rw [List.getElem_take] at heq
    rw [List.length_take] at hi
    have := List.pairwise_iff_getElem.mp h i n (by omega) hn (by omega)
    omega
  · rintro ⟨j, hj, hnot⟩
    by_contra hn
    exact hnot (by rwa [List.take_of_length_le (Nat.not_lt.mp hn)])

/-- R354: retaining a sprite changes the sprite buffer only. -/
theorem retainSprite_ppu (s : State) (i : Nat) :
    (retainSprite s i).ppu = { s.ppu with sprites := (retainSprite s i).ppu.sprites } := by
  simp only [retainSprite, ppuRead_ppu]

/-- R353: evaluation sets the overflow flag when more than 8 entries qualify. -/
theorem evaluateSprites_overflow (s : State) :
    (evaluateSprites s).ppu.spriteOverflow = (s.ppu.spriteOverflow || decide (8 < (qualifying s.ppu).length)) :=
  foldl_keeps (fun t => t.ppu.spriteOverflow = (s.ppu.spriteOverflow || decide (8 < (qualifying s.ppu).length)))
    retainSprite (fun t i h => by rwa [retainSprite_ppu]) _ _ rfl

/-- Settles O55: the retained indexes are the first 8 qualifying ones (`evaluateSprites_index`), which rise. -/
theorem spriteEvaluation : Obligations.SpriteEvaluation := by
  intro s h hit kept
  have hrise := pairwise_qualifying s.ppu
  have hkept : kept = (qualifying s.ppu).take 8 := evaluateSprites_index s
  have hmem (i : Nat) : i ∈ qualifying s.ppu ↔ i < 64 ∧ hit i := by
    rw [mem_qualifying, qualifies_iff]
  rw [hkept]
  refine ⟨List.length_take_le .., hrise.sublist (List.take_sublist ..), fun i hi => (hmem i).mp (List.mem_of_mem_take hi),
    fun j hj hhit => mem_take_or_above hrise 8 ((hmem j).mpr ⟨hj, hhit⟩), ?overflow⟩
  rw [evaluateSprites_overflow, Bool.or_eq_true, decide_eq_true_iff, lt_length_iff_exists_not_mem_take hrise]
  simp only [hmem, and_assoc]

/-! ### Compositing -/

/-- R356: a pixel is opaque when its pattern bits are not 00. -/
theorem opaquePixel_iff (v : BitVec 4) : opaquePixel v = true ↔ ¬ v.toNat % 4 = 0 := by
  revert v
  decide

/-- R356: the sprite seen is the first opaque one. -/
theorem spriteAt_eq_some_iff {sprites : List Sprite} {x : Nat} {k : Sprite} :
    spriteAt sprites x = some k ↔ ¬ (k.pixelAt x).toNat % 4 = 0 ∧
      ∃ before after, sprites = before ++ k :: after ∧ ∀ j ∈ before, (j.pixelAt x).toNat % 4 = 0 := by
  simp only [spriteAt, List.find?_eq_some_iff_append, opaquePixel_iff, Bool.not_eq_true', ← Bool.not_eq_true, not_not]

theorem spriteAt_eq_none_iff {sprites : List Sprite} {x : Nat} :
    spriteAt sprites x = none ↔ ∀ k ∈ sprites, (k.pixelAt x).toNat % 4 = 0 := by
  simp only [spriteAt, List.find?_eq_none, opaquePixel_iff, not_not]

/-- R357: the background is masked by its show bit, and in the left columns by its left bit. -/
theorem backgroundAt_masked {p : Ppu} {x : Nat}
    (h : p.mask.getLsbD 3 = false ∨ (x < 8 ∧ p.mask.getLsbD 1 = false)) : backgroundAt p x = 0 := by
  refine if_neg ?_
  rcases h with h | ⟨hx, h⟩
  · rw [h, Bool.false_and]
    exact Bool.false_ne_true
  · rw [h, decide_eq_false (Nat.not_le.mpr hx), Bool.or_self, Bool.and_false]
    exact Bool.false_ne_true

/-- R357: likewise the sprites. -/
theorem visibleSpriteAt_masked {p : Ppu} {x : Nat}
    (h : p.mask.getLsbD 4 = false ∨ (x < 8 ∧ p.mask.getLsbD 2 = false)) : visibleSpriteAt p x = none := by
  refine if_neg ?_
  rcases h with h | ⟨hx, h⟩
  · rw [h, Bool.false_and]
    exact Bool.false_ne_true
  · rw [h, decide_eq_false (Nat.not_le.mpr hx), Bool.or_self, Bool.and_false]
    exact Bool.false_ne_true

theorem visibleSpriteAt_shown {p : Ppu} {x : Nat} (hshow : p.mask.getLsbD 4 = true)
    (h : 8 ≤ x ∨ p.mask.getLsbD 2 = true) : visibleSpriteAt p x = spriteAt p.sprites x := by
  refine if_pos ?_
  rcases h with h | h <;> simp [hshow, h]

/-- R356: compositing without a sprite. -/
theorem composite_none {p : Ppu} {x : Nat} (h : visibleSpriteAt p x = none) :
    composite p x = { p with pixel :=
      if (backgroundAt p x).toNat % 4 = 0 then .backdrop else .background (backgroundAt p x) } := by
  simp only [composite, h, opaquePixel_iff, ite_not]

/-- R356: compositing with a sprite. -/
theorem composite_some {p : Ppu} {x : Nat} {k : Sprite} (h : visibleSpriteAt p x = some k) :
    composite p x =
      if (backgroundAt p x).toNat % 4 = 0 then { p with pixel := .sprite (k.pixelAt x) }
      else { p with
        spriteZeroHit := p.spriteZeroHit || decide (k.index = 0 ∧ x < 255)
        pixel := if k.behind then .background (backgroundAt p x) else .sprite (k.pixelAt x) } := by
  simp only [composite, h, opaquePixel_iff, ite_not, Bool.decide_and]
  rfl

/-- Settles O57: the masks, the first opaque sprite, and the two cases of `composite`. -/
theorem pixelCompositing : Obligations.PixelCompositing := by
  intro p hline hfirst hlast x clear bg sp q
  have hq : q = composite p x := if_pos (by simp [Ppu.visibleLine, hline, hfirst, hlast])
  rw [hq]
  refine ⟨fun h => ?background, visibleSpriteAt_masked, fun hshow hleft => ?sprites, composite_none,
    fun k => composite_some⟩
  case background => rw [show bg = 0 from backgroundAt_masked h]; rfl
  case sprites =>
    rw [show sp = _ from visibleSpriteAt_shown hshow hleft]
    exact ⟨spriteAt_eq_none_iff.mp, fun k => spriteAt_eq_some_iff.mp⟩

end Sys2Proof.Machine
end

section
/-! PROOFS. The picture processor's tick: what each part of it does to counters, scroll, flags and the NMI delay, whatever
it draws, and the statements about the whole tick. -/

namespace Sys2Proof.Machine

/-! ### The parts of a tick -/

/-- The counters, the scroll position, the control bits and the NMI delay of a picture processor, without what it draws
from and what it drew. -/
def Ppu.timing (p : Ppu) : Ppu :=
  { Ppu.initial with
    v := p.v, t := p.t, w := p.w, ctrl := p.ctrl, mask := p.mask, vblank := p.vblank, cycle := p.cycle
    scanLine := p.scanLine, nmiDelay := p.nmiDelay }

/-- A part of a tick leads from `s` to `t`: the timing becomes `p`, and the stall count and the pending NMI stay. -/
def TickPart (s : State) (p : Ppu) (t : State) : Prop :=
  t.ppu.timing = p ∧ t.lines.stall = s.lines.stall ∧ t.lines.nmiPending = s.lines.nmiPending

theorem TickPart.timing {s t : State} {p : Ppu} (h : TickPart s p t) : t.ppu.timing = p := h.1

theorem TickPart.stall {s t : State} {p : Ppu} (h : TickPart s p t) : t.lines.stall = s.lines.stall := h.2.1

theorem TickPart.nmiPending {s t : State} {p : Ppu} (h : TickPart s p t) :
    t.lines.nmiPending = s.lines.nmiPending := h.2.2

theorem TickPart.refl (s : State) : TickPart s s.ppu.timing s := ⟨rfl, rfl, rfl⟩

/-- A part that changes the timing by `f`, after another. -/
theorem TickPart.trans {s t u : State} {p : Ppu} {f : Ppu → Ppu} (h : TickPart s p t)
    (k : TickPart t (f t.ppu.timing) u) : TickPart s (f p) u :=
  ⟨k.timing.trans (congrArg f h.timing), k.stall.trans h.stall, k.nmiPending.trans h.nmiPending⟩

/-- A part that leaves the timing, after another. -/
theorem TickPart.after {s t u : State} {p : Ppu} (k : TickPart t t.ppu.timing u) (h : TickPart s p t) :
    TickPart s p u := h.trans (f := id) k

/-- A change of what is drawn leaves the timing. -/
theorem TickPart.draw {s t : State} {p q : Ppu} (h : TickPart s p t) (hq : q.timing = t.ppu.timing) :
    TickPart s p { t with ppu := q } := ⟨hq.trans h.timing, h.stall, h.nmiPending⟩

/-- R375: a mapper's callback leaves the timing; of the pending events it changes the IRQ sources only. -/
theorem applyMapperActions_part (l : List MapperAction) (s : State) :
    TickPart s s.ppu.timing (applyMapperActions l s) :=
  foldl_keeps (TickPart s s.ppu.timing) _ (fun t x h => by cases x <;> exact ⟨h.timing, h.stall, h.nmiPending⟩) l s
    (TickPart.refl s)

theorem mapperVideo_part (s : State) : TickPart s s.ppu.timing (mapperVideo s) := by
  unfold mapperVideo
  split
  · exact (applyMapperActions_part _ _).after ⟨rfl, rfl, rfl⟩
  · exact TickPart.refl s

theorem ppuRead_part (a : Nat) (s : State) : TickPart s s.ppu.timing (ppuRead a s).2 := by
  unfold ppuRead mapperChrRead
  split
  · split
    · exact ⟨rfl, rfl, rfl⟩
    · exact (applyMapperActions_part _ _).after ⟨rfl, rfl, rfl⟩
  · exact TickPart.refl s

theorem enhanceTileIndex_part (b : Byte) (s : State) : TickPart s s.ppu.timing (enhanceTileIndex b s).2 := by
  unfold enhanceTileIndex
  split <;> exact ⟨rfl, rfl, rfl⟩

theorem enhanceTileAttributes_part (b : Byte) (s : State) : TickPart s s.ppu.timing (enhanceTileAttributes b s).2 := by
  unfold enhanceTileAttributes
  split <;> exact ⟨rfl, rfl, rfl⟩

/-- R351: at phase 0 the horizontal increment. -/
theorem fetchAtPhase_increment {s : State} (h : s.ppu.cycle % 8 = 0) :
    TickPart s { s.ppu.timing with v := incrementX s.ppu.v } (fetchAtPhase s) := by
  unfold fetchAtPhase
  rw [h]
  exact ⟨rfl, rfl, rfl⟩

/-- R351: at the other phases a fetch, if any, which fills a latch. -/
theorem fetchAtPhase_still {s : State} (h : s.ppu.cycle % 8 ≠ 0) : TickPart s s.ppu.timing (fetchAtPhase s) := by
  unfold fetchAtPhase
  split
  · exact ((enhanceTileIndex_part _ _).after (ppuRead_part _ s)).draw rfl
  · exact ((enhanceTileAttributes_part _ _).after (ppuRead_part _ s)).draw rfl
  · exact (ppuRead_part _ s).draw rfl
  · exact (ppuRead_part _ s).draw rfl
  · next h0 => exact absurd h0 h
  · exact TickPart.refl s

theorem retainSprite_part (s : State) (i : Nat) : TickPart s s.ppu.timing (retainSprite s i) :=
  ((ppuRead_part _ _).after (ppuRead_part _ s)).draw rfl

theorem evaluateSprites_part (s : State) : TickPart s s.ppu.timing (evaluateSprites s) := by
  have h := foldl_keeps (TickPart s s.ppu.timing) retainSprite (fun t i h => (retainSprite_part t i).after h)
    ((qualifying s.ppu).take 8)
    (setAccessingSprites true { s with ppu := { s.ppu with
      sprites := [], spriteOverflow := s.ppu.spriteOverflow || decide (8 < (qualifying s.ppu).length) } })
    ⟨rfl, rfl, rfl⟩
  exact ⟨h.timing, h.stall, h.nmiPending⟩

theorem spriteDot_part (s : State) : TickPart s s.ppu.timing (spriteDot s) := by
  unfold spriteDot
  split
  · exact evaluateSprites_part s
  · exact TickPart.refl s

theorem pixelDot_timing (p : Ppu) : (pixelDot p).timing = p.timing := by
  unfold pixelDot composite
  repeat' split
  all_goals rfl

theorem scrollDot_timing (p : Ppu) : (scrollDot p).timing = scrollDot p.timing := by
  simp only [scrollDot, apply_ite Ppu.timing]
  rfl

/-- R344: the countdown changes the delay and the pending NMI. -/
theorem nmiCountdown_ppu (s : State) : (nmiCountdown s).ppu = { s.ppu with nmiDelay := s.ppu.nmiDelay - 1 } := by
  unfold nmiCountdown
  split
  · next h => rw [show s.ppu.nmiDelay - 1 = s.ppu.nmiDelay by omega]
  · dsimp only
    split <;> rfl

theorem nmiCountdown_stall (s : State) : (nmiCountdown s).lines.stall = s.lines.stall := by
  unfold nmiCountdown
  split
  · rfl
  · dsimp only
    split <;> rfl

theorem nmiCountdown_nmiPending (s : State) : (nmiCountdown s).lines.nmiPending =
    (s.lines.nmiPending || (decide (s.ppu.nmiDelay = 1) && s.ppu.nmiOut)) := by
  unfold nmiCountdown
  by_cases h0 : s.ppu.nmiDelay = 0
  · simp [h0]
  · cases decide (s.ppu.nmiDelay = 1) && s.ppu.nmiOut <;> simp [h0]

/-! ### Scrolling -/

/-- R351: what fetching does to the timing: at phase 0 of the fetch cycles the horizontal increment. -/
def fetchScroll (p : Ppu) : Ppu :=
  if p.renderLine && p.fetchCycle && p.cycle % 8 == 0 then { p with v := incrementX p.v } else p

theorem fetchDot_part (s : State) : TickPart s (fetchScroll s.ppu.timing) (fetchDot s) := by
  have hscroll : fetchScroll s.ppu.timing =
      if s.ppu.renderLine && s.ppu.fetchCycle && s.ppu.cycle % 8 == 0 then
        { s.ppu.timing with v := incrementX s.ppu.v }
      else s.ppu.timing := rfl
  rw [hscroll, fetchDot]
  cases s.ppu.renderLine && s.ppu.fetchCycle
  · exact TickPart.refl s
  · by_cases hphase : s.ppu.cycle % 8 = 0
    · simpa [hphase] using fetchAtPhase_increment hphase
    · simpa [hphase] using fetchAtPhase_still hphase

theorem fetchScroll_eq (p : Ppu) : fetchScroll p = { p with v := (fetchScroll p).v } := by
  unfold fetchScroll
  split <;> rfl

theorem scrollDot_eq (p : Ppu) : scrollDot p = { p with v := (scrollDot p).v } := by
  unfold scrollDot
  repeat' split
  all_goals rfl

/-- R342, R346: which lines render. -/
theorem renderLine_iff (p : Ppu) : p.renderLine = true ↔
    (p.mask.getLsbD 3 = true ∨ p.mask.getLsbD 4 = true) ∧ (p.scanLine < 240 ∨ p.scanLine = 261) := by
  simp only [Ppu.renderLine, Ppu.rendering, Ppu.visibleLine, Ppu.preRenderLine, Bool.and_eq_true, Bool.or_eq_true,
    decide_eq_true_iff, beq_iff_eq]

/-- R351, R352: outside a rendering line nothing scrolls. -/
theorem scroll_idle {p : Ppu} (h : p.renderLine = false) : scrollDot (fetchScroll p) = p := by
  have hfetch : fetchScroll p = p := if_neg (by rw [h]; exact Bool.false_ne_true)
  rw [hfetch]
  exact if_pos (by rw [h]; rfl)

/-- R351: the scroll position after fetching in a rendering line. -/
theorem fetchScroll_v {p : Ppu} (h : p.renderLine = true) : (fetchScroll p).v =
    if ((1 ≤ p.cycle ∧ p.cycle ≤ 256) ∨ (321 ≤ p.cycle ∧ p.cycle ≤ 336)) ∧ p.cycle % 8 = 0 then incrementX p.v
    else p.v := by
  simp only [fetchScroll, h, Ppu.fetchCycle, Bool.true_and, Bool.and_eq_true, decide_eq_true_iff, beq_iff_eq,
    apply_ite Ppu.v]

/-- R352: what the increments and copies at fixed cycles of a rendering line make of the scroll position. -/
theorem scrollDot_v {p : Ppu} (h : p.renderLine = true) : (scrollDot p).v =
    if p.cycle = 256 then incrementY p.v
    else if p.cycle = 257 then copyX p.t p.v
    else if p.scanLine = 261 ∧ 280 ≤ p.cycle ∧ p.cycle ≤ 304 then copyY p.t p.v
    else p.v := by
  simp only [scrollDot, h, Ppu.preRenderLine, Bool.not_true, Bool.false_eq_true, if_false, Bool.and_eq_true,
    decide_eq_true_iff, beq_iff_eq, apply_ite Ppu.v]

/-- R351, R352: the scroll position after both, in a rendering line. -/
theorem scroll_v {p : Ppu} (h : p.renderLine = true) : (scrollDot (fetchScroll p)).v =
    if p.cycle = 256 then incrementY (fetchScroll p).v
    else if p.cycle = 257 then copyX p.t (fetchScroll p).v
    else if p.scanLine = 261 ∧ 280 ≤ p.cycle ∧ p.cycle ≤ 304 then copyY p.t (fetchScroll p).v
    else (fetchScroll p).v := by
  rw [fetchScroll_eq, scrollDot_v (p := { p with v := (fetchScroll p).v }) h]

/-- Scrolling does not look at the NMI delay, nor at what is drawn. -/
theorem scroll_timing_v (p : Ppu) (n : Nat) :
    (scrollDot (fetchScroll { p.timing with nmiDelay := n })).v = (scrollDot (fetchScroll p)).v := by
  have hline : Ppu.renderLine { p.timing with nmiDelay := n } = p.renderLine := rfl
  cases h : p.renderLine
  · rw [scroll_idle h, scroll_idle (hline.trans h)]
    rfl
  · rw [scroll_v h, scroll_v (hline.trans h), fetchScroll_v h, fetchScroll_v (hline.trans h)]
    rfl

/-- Scrolling looks at the timing only, and changes the scroll position only. -/
theorem scroll_timing (p : Ppu) (n : Nat) : scrollDot (fetchScroll { p.timing with nmiDelay := n }) =
    { p.timing with nmiDelay := n, v := (scrollDot (fetchScroll p)).v } := by
  rw [← scroll_timing_v p n, scrollDot_eq]
  rw [fetchScroll_eq]

/-! ### The VBlank flag and the counters -/

theorem vblankDot_eq (p : Ppu) : vblankDot p = { p with
    vblank := (vblankDot p).vblank
    spriteZeroHit := (vblankDot p).spriteZeroHit
    spriteOverflow := (vblankDot p).spriteOverflow
    nmiDelay := (vblankDot p).nmiDelay } := by
  unfold vblankDot armNmi
  repeat' split
  all_goals rfl

theorem advanceDot_eq (p : Ppu) : advanceDot p = { p with
    cycle := (advanceDot p).cycle
    scanLine := (advanceDot p).scanLine
    sprites := (advanceDot p).sprites } := by
  unfold advanceDot
  repeat' split
  all_goals rfl

/-- R343: at other cycles the flags stay. -/
theorem vblankDot_other {p : Ppu} (h : p.cycle ≠ 1) : vblankDot p = p := by
  simp only [vblankDot, h, decide_false, Bool.false_and, Bool.false_eq_true, if_false]

/-- R343: VBlank is set at (241, 1). -/
theorem vblankDot_set {p : Ppu} (hcycle : p.cycle = 1) (hline : p.scanLine = 241) :
    vblankDot p = armNmi p { p with vblank := true } := if_pos (by simp [hcycle, hline])

/-- R343, R358: the flags are cleared at (261, 1). -/
theorem vblankDot_clear {p : Ppu} (hcycle : p.cycle = 1) (hline : p.scanLine = 261) :
    vblankDot p = { p with vblank := false, spriteZeroHit := false, spriteOverflow := false } := by
  simp [vblankDot, Ppu.preRenderLine, hcycle, hline]

/-- R344: VBlank loads the delay when it makes the NMI output true. -/
theorem vblankDot_nmiDelay (p : Ppu) : (vblankDot p).nmiDelay =
    if p.cycle = 1 ∧ p.scanLine = 241 ∧ p.ctrl.getLsbD 7 = true ∧ p.vblank = false then 15 else p.nmiDelay := by
  by_cases hset : p.cycle = 1 ∧ p.scanLine = 241
  · rw [vblankDot_set hset.1 hset.2, armNmi_nmiDelay]
    simp only [Ppu.nmiOut, hset, true_and, Bool.and_true]
    cases p.ctrl.getLsbD 7 <;> cases p.vblank <;> rfl
  · rw [if_neg fun h => hset ⟨h.1, h.2.1⟩]
    unfold vblankDot
    rw [if_neg (by simpa using hset)]
    split <;> rfl

/-- R341: the cycle counts to 340. -/
theorem advanceDot_cycle {p : Ppu} (h : p.cycle < 340) : advanceDot p = { p with cycle := p.cycle + 1 } := if_pos h

/-- R341: then the line does, to 261. -/
theorem advanceDot_line {p : Ppu} (h : p.cycle = 340) (hline : p.scanLine ≤ 261) :
    (advanceDot p).cycle = 0 ∧ (advanceDot p).scanLine = if p.scanLine = 261 then 0 else p.scanLine + 1 := by
  have hcycle : ¬ p.cycle < 340 := by omega
  by_cases hlast : p.scanLine = 261
  · simp only [advanceDot, hcycle, hlast, Nat.lt_irrefl, if_false, if_true, and_self]
  · have hlt : p.scanLine < 261 := by omega
    simp only [advanceDot, hcycle, hlt, hlast, if_false, if_true, and_self]

/-! ### The whole tick -/

/-- R341: the last part of a tick is the VBlank flag and the counters; the parts before, which lead to the state `u`,
count the NMI delay down and scroll. -/
theorem ppuTick_parts (s : State) : ∃ u : State,
    ppuTick s = { u with ppu := advanceDot (vblankDot u.ppu) } ∧
    TickPart (nmiCountdown s)
      { s.ppu.timing with nmiDelay := s.ppu.nmiDelay - 1, v := (scrollDot (fetchScroll s.ppu)).v } u := by
  have hcountdown : (nmiCountdown s).ppu.timing = { s.ppu.timing with nmiDelay := s.ppu.nmiDelay - 1 } := by
    rw [nmiCountdown_ppu]
    rfl
  rw [← scroll_timing, ← hcountdown]
  have hpixel := (mapperVideo_part (nmiCountdown s)).draw (pixelDot_timing _)
  have hfetch := hpixel.trans (fetchDot_part _)
  have hscroll := (scrollDot_timing _).trans (congrArg scrollDot hfetch.timing)
  exact ⟨_, rfl, (spriteDot_part _).after ⟨hscroll, hfetch.stall, hfetch.nmiPending⟩⟩

/-- The picture processor after a tick: the last part's work on a `q` that has the timing of before, counted down and
scrolled. -/
theorem ppuTick_ppu (s : State) : ∃ q : Ppu, (ppuTick s).ppu = advanceDot (vblankDot q) ∧
    q.w = s.ppu.w ∧ q.ctrl = s.ppu.ctrl ∧ q.vblank = s.ppu.vblank ∧ q.cycle = s.ppu.cycle ∧
    q.scanLine = s.ppu.scanLine ∧ q.nmiDelay = s.ppu.nmiDelay - 1 ∧ q.v = (scrollDot (fetchScroll s.ppu)).v := by
  obtain ⟨u, htick, htiming, -, -⟩ := ppuTick_parts s
  simp only [Ppu.timing, Ppu.mk.injEq] at htiming
  exact ⟨u.ppu, by rw [htick], by simp only [htiming, and_self]⟩

theorem ppuTick_w (s : State) : (ppuTick s).ppu.w = s.ppu.w := by
  obtain ⟨q, htick, hw, -⟩ := ppuTick_ppu s
  rw [htick, advanceDot_eq, vblankDot_eq, ← hw]

theorem ppuTick_v (s : State) : (ppuTick s).ppu.v = (scrollDot (fetchScroll s.ppu)).v := by
  obtain ⟨q, htick, -, -, -, -, -, -, hv⟩ := ppuTick_ppu s
  rw [htick, advanceDot_eq, vblankDot_eq, ← hv]

theorem ppuTick_nmiDelay (s : State) : (ppuTick s).ppu.nmiDelay =
    if s.ppu.cycle = 1 ∧ s.ppu.scanLine = 241 ∧ s.ppu.ctrl.getLsbD 7 = true ∧ s.ppu.vblank = false then 15
    else s.ppu.nmiDelay - 1 := by
  obtain ⟨q, htick, -, hctrl, hvblank, hcycle, hline, hdelay, -⟩ := ppuTick_ppu s
  rw [htick, advanceDot_eq, ← hcycle, ← hline, ← hctrl, ← hvblank, ← hdelay]
  exact vblankDot_nmiDelay q

/-- R302, R344: only the countdown triggers the NMI in a tick. -/
theorem ppuTick_nmiPending (s : State) : (ppuTick s).lines.nmiPending =
    (s.lines.nmiPending || (decide (s.ppu.nmiDelay = 1) && s.ppu.nmiOut)) := by
  obtain ⟨u, htick, hpart⟩ := ppuTick_parts s
  rw [htick, ← nmiCountdown_nmiPending]
  exact hpart.nmiPending

/-- R316: a tick adds no stall units. -/
theorem ppuTick_stall (s : State) : (ppuTick s).lines.stall = s.lines.stall := by
  obtain ⟨u, htick, hpart⟩ := ppuTick_parts s
  rw [htick, ← nmiCountdown_stall s]
  exact hpart.stall

/-! ### The statements about a tick -/

/-- Settles O53: `armNmi_nmiDelay` for the control port; for a tick, `ppuTick_nmiDelay` and what it leaves pending. -/
theorem nmiDelay : Obligations.NmiDelay := by
  intro s d out arms
  have hwrite : (writePort 0 d s).ppu.nmiDelay =
      if out s.ppu = false ∧ (d.getLsbD 7 && s.ppu.vblank) = true then 15 else s.ppu.nmiDelay := armNmi_nmiDelay _ _
  refine ⟨fun hout hd hvblank => ?load, fun hidle => ?keep, rfl, fun harms => (ppuTick_nmiDelay s).trans (if_pos harms),
    fun hidle => (ppuTick_nmiDelay s).trans (if_neg hidle), ppuTick_nmiPending s, ppuTick_stall s⟩
  case load => rw [hwrite, if_pos ⟨hout, by rw [hd, hvblank]; rfl⟩]
  case keep =>
    rw [hwrite, if_neg]
    rintro ⟨hout, hnew⟩
    rw [Bool.and_eq_true] at hnew
    rcases hidle with h | h | h
    · exact absurd (hout.symm.trans h) Bool.false_ne_true
    · exact absurd (h.symm.trans hnew.1) Bool.false_ne_true
    · exact absurd (h.symm.trans hnew.2) Bool.false_ne_true

/-- Settles O54: by the cycle and line of the tick (`ppuTick_ppu`), the cases of `advanceDot` and of `vblankDot`. -/
theorem tickCountersAndVblank : Obligations.TickCountersAndVblank := by
  intro s hcycle hline
  obtain ⟨q, htick, -, -, hv, hc, hl, -, -⟩ := ppuTick_ppu s
  have hdot : (vblankDot q).cycle = q.cycle ∧ (vblankDot q).scanLine = q.scanLine := by
    rw [vblankDot_eq]
    exact ⟨rfl, rfl⟩
  dsimp only
  rw [htick, ← hc, ← hl, ← hv]
  rw [← hl] at hline
  refine ⟨fun h => ?count, fun h => ?wrap, fun h1 h241 => ?set, fun h1 h261 => ?clear, fun h => ?keep⟩
  case count =>
    rw [advanceDot_cycle (hdot.1 ▸ h)]
    exact ⟨congrArg (· + 1) hdot.1, hdot.2⟩
  case wrap =>
    have := advanceDot_line (hdot.1.trans h) (by rwa [hdot.2])
    rwa [hdot.2] at this
  case set => rw [advanceDot_eq, vblankDot_set h1 h241, armNmi_eq]
  case clear =>
    rw [advanceDot_eq, vblankDot_clear h1 h261]
    exact ⟨rfl, rfl, rfl⟩
  case keep => rw [advanceDot_eq, vblankDot_other h]

/-- Settles O56: the field lemmas of the increments and copies; a tick's `v` is `scroll_v` in a rendering line, and in
each range of cycles at most one of its cases applies. -/
theorem scrollIncrements : Obligations.ScrollIncrements := by
  refine ⟨fun t v => ⟨field_incrementX v, field_incrementY v, field_copyX t v, field_copyY t v⟩, fun s => ?_⟩
  intro p v renders
  have hv : v = (scrollDot (fetchScroll p)).v := ppuTick_v s
  have hline : p.renderLine = true ↔ renders := renderLine_iff p
  rw [hv]
  refine ⟨fun h => ?idle, fun h => ?rendering⟩
  case idle => rw [scroll_idle (Bool.not_eq_true _ ▸ mt hline.mp h)]
  case rendering =>
    have hr := hline.mpr h
    have hoff (h : p.cycle = 0 ∨ (257 ≤ p.cycle ∧ p.cycle ≤ 320) ∨ 337 ≤ p.cycle) : (fetchScroll p).v = p.v := by
      rw [fetchScroll_v hr, if_neg (by omega)]
    rw [scroll_v hr]
    refine ⟨fun hfetch => ?fetch, fun h256 => ?c256, fun h257 => ?c257, fun hlo hhi => ?copy, fun hrest => ?rest⟩
    case fetch =>
      rw [if_neg (by omega), if_neg (by omega), if_neg (by omega), fetchScroll_v hr]
      exact if_congr (and_iff_right (by omega)) rfl rfl
    case c256 => rw [if_pos h256, fetchScroll_v hr, if_pos (by omega)]
    case c257 => rw [if_neg (by omega), if_pos h257, hoff (by omega)]
    case copy =>
      rw [if_neg (by omega), if_neg (by omega), hoff (by omega)]
      exact if_congr (and_iff_left ⟨hlo, hhi⟩) rfl rfl
    case rest => rw [if_neg (by omega), if_neg (by omega), if_neg (by omega), hoff (by omega)]

/-! ### The write toggle -/

/-- R347: a write to another port than the scroll and address ports leaves the toggle. -/
theorem writePort_w {n : Nat} (h5 : n ≠ 5) (h6 : n ≠ 6) (d : Byte) (s : State) : (writePort n d s).ppu.w = s.ppu.w := by
  unfold writePort
  split
  · rw [writeControl, armNmi_eq]
  · rfl
  · rfl
  · rfl
  · exact absurd rfl h5
  · exact absurd rfl h6
  · exact (congrArg Ppu.w (writePort_data_ppu d s) :)
  · rfl

/-- R347: a read of another port than the status port leaves the toggle. -/
theorem readPort_w {n : Nat} (h2 : n ≠ 2) (s : State) : (readPort n s).2.ppu.w = s.ppu.w := by
  unfold readPort
  split
  · exact absurd rfl h2
  · rfl
  · rw [readData_ppu]
  · rfl

/-- Settles O49: the two writes at either value of the toggle; every other access (`writePort_w`, `readPort_w`) and every
tick leave it. -/
theorem writeToggle : Obligations.WriteToggle := by
  intro s n d hn
  refine ⟨fun h => ?_, fun h5 h6 => writePort_w h5 h6 d s, fun h => by rw [h]; rfl, fun h2 => readPort_w h2 s,
    ppuTick_w s⟩
  cases hw : s.ppu.w <;> rcases h with rfl | rfl
  · rw [writePort_scroll_first d hw]; rfl
  · rw [writePort_address_first d hw]; rfl
  · rw [writePort_scroll_second d hw]; rfl
  · rw [writePort_address_second d hw]; rfl

end Sys2Proof.Machine
end

section
/-! PROOFS. The processor's side of the exceptions family: no step stops, the sampling and the entry of an interrupt,
and the cycles a call uses. -/

namespace Sys2Proof.Machine

/-! ### Completion and the orchestrator's step -/

/-- R300, R305: a call of `ExecuteInstruction()` always answers a next state. -/
theorem exists_executeInstruction (s : State) : ∃ t, executeInstruction s = .next t := by
  by_cases hstall : s.lines.stall = 0
  · rw [executeInstruction, if_pos hstall]
    exact ⟨_, exec_eq _ _⟩
  · exact ⟨_, executeInstruction_stalled hstall⟩

/-- Settles O37: every instruction completes (`exec_eq`), hence every call, hence every step. -/
theorem nothingStops : Obligations.NothingStops := by
  refine ⟨fun i s => ⟨_, exec_eq i s⟩, fun s => ?_⟩
  obtain ⟨u, hu⟩ := exists_executeInstruction s
  exact ⟨_, step_of_executeInstruction hu⟩

/-- Settles O35: a step is the call and `catchUp`, at the console's rates of 3 ticks and 1 audio step a cycle. -/
theorem orchestratorStep : Obligations.OrchestratorStep := by
  intro s t h
  rw [step_of_executeInstruction h, catchUp, Config.apuPerCpu, Config.ppuPerCpu, Nat.one_mul]

/-! ### Sampling -/

/-- R41: the IRQ input is asserted exactly when the set of sources is not empty. -/
theorem asserted_eq_false_iff (q : IrqSources) : q.asserted = false ↔ q = ⟨false, false, false⟩ := by
  obtain ⟨frame, dmc, mapper⟩ := q
  simp only [IrqSources.asserted, Bool.or_eq_false_iff, IrqSources.mk.injEq, and_assoc]

/-- R304: a pending NMI is cleared and entered. -/
theorem sampleInterrupts_nmi {s : State} (h : s.lines.nmiPending = true) :
    sampleInterrupts s = interruptEntry 0xFFFA { s with lines := { s.lines with nmiPending := false } } := if_pos h

/-- R306: an asserted IRQ is entered with `I` clear. -/
theorem sampleInterrupts_irq {s : State} (hnmi : s.lines.nmiPending = false)
    (hirq : s.lines.irq ≠ ⟨false, false, false⟩) (hi : s.cpu.p.i = false) :
    sampleInterrupts s = interruptEntry 0xFFFE s := by
  have hasserted : s.lines.irq.asserted = true := by
    rw [← Bool.not_eq_false, asserted_eq_false_iff]
    exact hirq
  rw [sampleInterrupts, hnmi, hasserted, hi]
  rfl

/-- R306: without an NMI, and with no IRQ or `I` set, nothing is entered. -/
theorem sampleInterrupts_none {s : State} (hnmi : s.lines.nmiPending = false)
    (hirq : s.lines.irq = ⟨false, false, false⟩ ∨ s.cpu.p.i = true) : sampleInterrupts s = s := by
  have hmasked : (s.lines.irq.asserted && !s.cpu.p.i) = false := by
    rcases hirq with hnone | hi
    · rw [(asserted_eq_false_iff _).mpr hnone, Bool.false_and]
    · rw [hi, Bool.not_true, Bool.and_false]
  rw [sampleInterrupts, hnmi, hmasked]
  rfl

/-- R305: with no stall unit pending, a call samples the interrupts, fetches and executes. -/
theorem executeInstruction_running {s : State} (h : s.lines.stall = 0) :
    executeInstruction s = exec (fetch (sampleInterrupts s)).1 (fetch (sampleInterrupts s)).2 := if_pos h

/-- Settles O30: the three outcomes of the sampling, each before one fetch and execution. -/
theorem interruptSampling : Obligations.InterruptSampling := by
  intro s hstall
  rw [executeInstruction_running hstall]
  refine ⟨fun hnmi => ?_, fun hnmi hirq hi => ?_, fun hnmi hirq => ?_⟩
  · rw [sampleInterrupts_nmi hnmi]
  · rw [sampleInterrupts_irq hnmi hirq hi]
  · rw [sampleInterrupts_none hnmi hirq]

/-! ### Entering an interrupt -/

/-- Settles O29: the entry is `enterVector` and its cycles; its pushes and reads leave the registers but `SP`, and
`enterVector_read_stack` finds the three bytes. -/
theorem interruptEntryResult : Obligations.InterruptEntryResult := by
  intro s vector
  have htwo : s.cpu.sp - 1 - 1 = s.cpu.sp - 2 := by bv_omega
  have hthree : s.cpu.sp - 1 - 1 - 1 = s.cpu.sp - 3 := by bv_omega
  refine ⟨?next, fun hplain hwf => ?stack⟩
  case next =>
    rw [interruptEntry, enterVector]
    simp only [push_cpu, push16_cpu, read16_cpu, hthree]
    rfl
  case stack =>
    have hbytes := enterVector_read_stack hplain hwf vector false
    rwa [hiByte_eq_ofNat, loByte_eq_ofNat, htwo] at hbytes

/-! ### The cycles of a call -/

/-- R203: the cycles a taken branch may add to its base cycles. -/
def branchCycles (m : Mnemonic) : Nat :=
  if m ∈ [.bcc, .bcs, .beq, .bne, .bmi, .bpl, .bvc, .bvs] then 2 else 0

/-- R110, R111, R203: between the registers `c` and `d`, an operation of mnemonic `m` used its base cycles, and at most
its page penalty and a taken branch's cycles besides. -/
def CyclesUsed (m : Mnemonic) (t : Timing) (c d : Cpu) : Prop :=
  c.cycles + t.cycles ≤ d.cycles ∧ d.cycles ≤ c.cycles + t.cycles + t.penalty.toNat + branchCycles m

/-- An operation that counts no cycles beside the accounting of the instruction. -/
theorem CyclesUsed.of_accountFor {t : Timing} {crossed : Bool} {c d : Cpu} (m : Mnemonic)
    (h : d.cycles = (accountFor t crossed c).cycles) : CyclesUsed m t c d := by
  have hpenalty : (if t.penalty && crossed then 1 else 0) ≤ t.penalty.toNat := by
    cases t.penalty <;> cases crossed <;> decide
  rw [accountFor_cycles] at h
  constructor <;> omega

theorem readOp_cycles (m : Mnemonic) {f : Byte → Cpu → Cpu} (hf : ∀ v c, (f v c).cycles = c.cycles) (o : Operand)
    (t : Timing) (s : State) : CyclesUsed m t s.cpu (readOp f o t s).cpu :=
  .of_accountFor m (by rw [readOp_cpu, hf])

theorem registerOp_cycles (m : Mnemonic) {f : Cpu → Cpu} (hf : ∀ c, (f c).cycles = c.cycles) (t : Timing) (s : State) :
    CyclesUsed m t s.cpu (registerOp f t s).cpu :=
  .of_accountFor m (by rw [registerOp_cpu, hf])

theorem modifyOp_cycles (m : Mnemonic) (f : Byte → Flags → Byte × Flags) (o : Operand) (t : Timing) (s : State) :
    CyclesUsed m t s.cpu (modifyOp f o t s).cpu := by
  by_cases ho : o = .accumulator
  · subst ho
    exact .of_accountFor m (by rw [modifyOp_accumulator_cpu])
  · exact .of_accountFor m (by rw [modifyOp_memory_cpu f o t s ho])

/-- R203: a branch adds 1 or 2 cycles when it is taken. -/
theorem branchIf_cycles {m : Mnemonic} (hm : branchCycles m = 2) (cond : Flags → Bool) (o : Operand) (t : Timing)
    (s : State) : CyclesUsed m t s.cpu (branchIf cond o t s).cpu := by
  obtain ⟨hlo, hhi⟩ := CyclesUsed.of_accountFor .undoc (congrArg Cpu.cycles (prepare_cpu o t s))
  have hnone : branchCycles .undoc = 0 := rfl
  unfold branchIf
  dsimp only
  split
  · constructor <;> (dsimp only; split <;> omega)
  · constructor <;> omega

/-- Every operation uses the cycles of its timing: by the shape the operation is written in. -/
theorem operationOf_cycles (m : Mnemonic) (o : Operand) (t : Timing) (s : State) :
    CyclesUsed m t s.cpu (operationOf m o t s).cpu := by
  cases m
  case lda | ldx | ldy | adc | sbc | cmp | cpx | cpy | and | ora | eor | bit =>
    exact readOp_cycles _ (fun _ _ => rfl) o t s
  case sta | stx | sty => exact .of_accountFor _ (congrArg Cpu.cycles (storeOp_cpu _ o t s))
  case inc | dec | asl | lsr | rol | ror => exact modifyOp_cycles _ _ o t s
  case tax | tay | txa | tya | tsx | txs | inx | iny | dex | dey | clc | sec | cli | sei | clv | cld | sed | nop =>
    exact registerOp_cycles _ (fun _ => rfl) t s
  case bcc | bcs | beq | bne | bmi | bpl | bvc | bvs => exact branchIf_cycles rfl _ o t s
  case jmp | undoc | jsr =>
    exact .of_accountFor (crossed := (resolve o s).1.crossed) _ (by simp [operationOf, opJmp, opUndoc, opJsr])
  case pha | php => exact .of_accountFor (crossed := false) _ (by simp [operationOf, opPha, opPhp, resolve])
  case pla | plp | rts | rti =>
    exact .of_accountFor (crossed := false) _
      (by simp [operationOf, opPla, opPlp, opRts, opRti, returnFromInterrupt, resolve])
  case brk => exact .of_accountFor (crossed := false) _ (by rw [operationOf, opBrk_cpu])

/-- R107, R111, R203: in the opcode table an instruction has at least 1 cycle, and at most 8 with its page penalty and a
taken branch's cycles. -/
theorem timing_bounds (i : Instr) :
    1 ≤ i.timing.cycles ∧ i.timing.cycles + i.timing.penalty.toNat + branchCycles i.mnemonic ≤ 8 := by
  cases i <;> (dsimp only [Instr.timing, Instr.mnemonic]; decide)

/-- R305: a fetch changes no register. -/
theorem fetch_cpu (s : State) : (fetch s).2.cpu = s.cpu := by
  unfold fetch
  dsimp only
  split <;> simp only [memRead_cpu]

/-- R307: an interrupt entry takes 7 cycles. -/
theorem interruptEntry_cycles (vector : Word) (s : State) :
    (interruptEntry vector s).cpu.cycles = s.cpu.cycles + 7 := by
  rw [interruptEntry, enterVector_cpu]
  rfl

/-- R304, R307: sampling takes the cycles of one entry, or none. -/
theorem sampleInterrupts_cycles (s : State) :
    (sampleInterrupts s).cpu.cycles = s.cpu.cycles + 7 ∨ (sampleInterrupts s).cpu.cycles = s.cpu.cycles := by
  unfold sampleInterrupts
  split
  · exact .inl (interruptEntry_cycles _ _)
  split
  · exact .inl (interruptEntry_cycles _ s)
  · exact .inr rfl

/-- Settles O38: a stall unit is 1 cycle; otherwise the sampling takes 0 or 7 (`sampleInterrupts_cycles`) and the
instruction 1 to 8 (`operationOf_cycles`, `timing_bounds`). -/
theorem cyclesPerCall : Obligations.CyclesPerCall := by
  intro s t h
  by_cases hstall : s.lines.stall = 0
  · rw [executeInstruction_running hstall, exec_eq] at h
    obtain rfl := next_inj h
    obtain ⟨hlo, hhi⟩ := operationOf_cycles (fetch (sampleInterrupts s)).1.mnemonic
      (fetch (sampleInterrupts s)).1.operand (fetch (sampleInterrupts s)).1.timing (fetch (sampleInterrupts s)).2
    rw [fetch_cpu] at hlo hhi
    have hbounds := timing_bounds (fetch (sampleInterrupts s)).1
    have hsample := sampleInterrupts_cycles s
    omega
  · rw [executeInstruction_stalled hstall] at h
    obtain rfl := next_inj h
    rw [stallUnit_cpu]
    constructor <;> (dsimp only; omega)

end Sys2Proof.Machine
end

section
/-! PROOFS. The reset family: `Reset()` on a running machine. -/

namespace Sys2Proof.Machine

/-- R401: `Reset()` stores nothing; its only bus accesses are the two vector reads. -/
theorem resetProcessor_backing (s : State) : (resetProcessor s).bus.backing = s.bus.backing :=
  read16_backing Config.resetVector s

/-- Settles O33: the vector is a `read16` (`read16_eq_memRead`), whose two reads keep the registers (`memRead_cpu`) and
the backing array (`resetProcessor_backing`). -/
theorem resetOperation : Obligations.ResetOperation := by
  refine fun s => ⟨?next, resetProcessor_backing s, rfl⟩
  rw [resetProcessor, read16_eq_memRead]
  simp only [memRead_cpu]
  rfl

end Sys2Proof.Machine
end
